-- ==== Sys2Proof/Word.lean ====
section
/-! DEFINITION. The words of the NK2412: bytes of the port link, samples of the capture channels, and the
index types of the part's fixed sets (00_scope.md, Conventions). -/

namespace Sys2Proof

/-- A character of a port link (8-bit characters, chapter 10). -/
abbrev Byte := BitVec 8

/-- An amplitude, 0 to 1023 (00_scope.md: 1023 denotes saturation). -/
abbrev Sample := Fin 1024

/-- A client port, P0 to P3. -/
abbrev Port := Fin 4

/-- A capture channel, CH0 to CH2. -/
abbrev Chan := Fin 3

/-- A probe by its global number, 0 to 23; 0 to 11 are rail A, 12 to 23 rail B. -/
abbrev ProbeNo := Fin 24

/-- A gate place of a probe entry, 0 to 3 (R8). -/
abbrev Place := Fin 4

/-- The cell of a shot block. The manual's block index, 1 to 64, is this number plus 1. -/
abbrev BlockIx := Fin 64

/-- A chain head or a next field: a block, or `none` where the manual writes 0 (R4, R13). -/
abbrev Link := Option BlockIx

/-- A position: a signed 32-bit count of ticks that wraps (R47). -/
abbrev Pos := BitVec 32

/-- A step number, 0 to 4,294,967,295 (R55). -/
abbrev StepNo := BitVec 32

/-- A set of ports, bit n set when Pn is in it (the hold-set byte of 11.3). -/
abbrev PortSet := BitVec 4

/-- A set of probes of one rail, bit n set for probe n within the rail (SKIP coverage, 11.4). -/
abbrev RailProbes := BitVec 12

end Sys2Proof
end

