-- ==== Sys2Proof/Syntax.lean ====
section
/-! DEFINITION. The commands of the block: one constructor per row of spec/opcode_table.json. A request carries its
port, its tag and its payload fields at the widths of table 11.2, so that out-of-range values can be sent. -/

namespace Sys2Proof

/-- A marker input (R51). -/
inductive Marker where
  | m0
  | m1
  deriving DecidableEq, Repr

/-- One event that reaches the part. -/
inductive Instr where
  /-- RESET goes low, or power is applied (R152). -/
  | hardwareReset
  /-- RESET is released: the levels sampled then, `present` bit n for Pn_PRESENT asserted (R43, R164). -/
  | resetRelease (encA encB m0 m1 : Bool) (present : PortSet)
  /-- The line pair changes to the levels given (R44). -/
  | encoderTransition (a b : Bool)
  /-- A 10 ms speed window ends (R48). -/
  | speedWindowEnd
  /-- A marker input changes to the level given (R53). -/
  | markerEdge (m : Marker) (level : Bool)
  /-- The step timer expires (R61). -/
  | stepTimerExpiry
  /-- A channel takes the last sample of its window. `first` then `rest` are the values standing on its stream at
  the successive 20 ns periods from the trigger; past the end of `rest` the last value goes on standing (R89). -/
  | channelWindowEnd (ch : Chan) (first : Sample) (rest : List Sample)
  /-- A channel's settle timer runs out (R90). -/
  | channelSettleEnd (ch : Chan)
  /-- The shadow copy completes (R40). -/
  | shadowCopyCompletion
  /-- The edit idle timer expires (R29). -/
  | editIdleTimerExpiry
  /-- The held-TAKE timer of a port expires (R170). -/
  | heldTakeExpiry (p : Port)
  /-- A port's present line is asserted (R164). -/
  | presentAsserted (p : Port)
  /-- A port's present line is deasserted (R171). -/
  | portReset (p : Port)
  /-- Characters arrive on a port's receive side, among them those of a frame in error (R165). -/
  | frameError (p : Port) (chars : List Byte)
  /-- More than 100 µs pass after a character of a frame (R165). -/
  | interCharacterGapTimeout (p : Port)
  /-- A complete frame of an unlisted kind arrives (R166). -/
  | unknownRequest (p : Port) (tag kind : Byte)
  /-- A complete request frame of any kind arrives while the port is ANSWERING (R166). -/
  | busyRefusal (p : Port) (tag kind : Byte)
  /-- The last character of the frame being sent on a port has been sent (R167). -/
  | frameSent (p : Port)
  /-- IDENTIFY (R172). -/
  | identify (p : Port) (tag : Byte)
  /-- READ STATUS (R173). -/
  | readStatus (p : Port) (tag : Byte)
  /-- CONFIGURE PORT: hold time in ms, attention threshold (R172). -/
  | configurePort (p : Port) (tag : Byte) (hold threshold : BitVec 16)
  /-- SUBSCRIBE: entry, match, mask, enabled (R139). -/
  | subscribe (p : Port) (tag entry matchVal mask enabled : Byte)
  /-- GENERAL: 0 off, 1 on (R140). -/
  | general (p : Port) (tag flag : Byte)
  /-- TAKE: count (R168). -/
  | take (p : Port) (tag count : Byte)
  /-- SNAPSHOT: probe (R146). -/
  | snapshot (p : Port) (tag probe : Byte)
  /-- CANCEL SNAPSHOT (R146). -/
  | cancelSnapshot (p : Port) (tag : Byte)
  /-- READ PLAN ENTRY: role, item, index (R35). -/
  | readPlanEntry (p : Port) (tag role item index : Byte)
  /-- CLAIM EDIT (R25). -/
  | claimEdit (p : Port) (tag : Byte)
  /-- RELEASE EDIT (R27). -/
  | releaseEdit (p : Port) (tag : Byte)
  /-- WRITE STEP SETTINGS: source, pitch, timed period, priority, heads (R31). -/
  | writeStepSettings (p : Port) (tag source : Byte) (pitch : BitVec 16) (period : BitVec 32)
      (priority headA headB : Byte)
  /-- WRITE PROBE: probe, level, pulse width, gain, window, settle, N, M (R32). -/
  | writeProbe (p : Port) (tag probe level : Byte) (pulseWidth : BitVec 16) (gain : Byte)
      (window settle : BitVec 16) (lossRun recoveryRun : Byte)
  /-- WRITE GATE: probe, place, occupied, kind, origin, start, width, threshold (R33). -/
  | writeGate (p : Port) (tag probe place occupied kind origin : Byte) (start width threshold : BitVec 16)
  /-- WRITE BLOCK: block index, in use, probe, decimation, phase, join, report, excerpt interval, excerpt-length
  code, next (R34). -/
  | writeBlock (p : Port) (tag block inUse probe decimation phase join report interval lengthCode next : Byte)
  /-- COMMIT (R36). -/
  | commit (p : Port) (tag : Byte)
  /-- ABANDON (R41). -/
  | abandon (p : Port) (tag : Byte)
  /-- SET SCALER: N, D (R49). -/
  | setScaler (p : Port) (tag : Byte) (num den : BitVec 16)
  /-- SET POSITION: the new position (R50). -/
  | setPosition (p : Port) (tag : Byte) (position : BitVec 32)
  /-- SET MARKER: marker, enabled, edge, lockout, action, load value (R51). -/
  | setMarker (p : Port) (tag marker enabled edge : Byte) (lockout : BitVec 16) (action : Byte)
      (load : BitVec 32)
  /-- START RUN: step limit, label (R153). -/
  | startRun (p : Port) (tag : Byte) (limit : BitVec 24) (label : BitVec 16)
  /-- STOP RUN (R157). -/
  | stopRun (p : Port) (tag : Byte)
  /-- HOLD PROBE: probe (R160). -/
  | holdProbe (p : Port) (tag probe : Byte)
  /-- RELEASE PROBE: probe (R161). -/
  | releaseProbe (p : Port) (tag probe : Byte)
  deriving DecidableEq, Repr

end Sys2Proof
end

