-- ==== Sys2Proof/Config.lean ====
section
/-! DEFINITION. The capacities the spec fixes for the part (00_scope.md, Capacities and counts) and the free values:
constants without a body, for what the spec leaves open while the part goes on. -/

namespace Sys2Proof.Config

/-- Record slots of the pool (R119). -/
def slotCount : Nat := 1024

/-- Pages of the Excerpt Store (R123). -/
def pageCount : Nat := 48

/-- Slots that shot allocation keeps free (R122). -/
def slotReserve : Nat := 16

/-- Places of the pool's pending list (R119). -/
def pendingListDepth : Nat := 8

/-- Entries of a port queue (R136). -/
def queueDepth : Nat := 256

/-- Frames of a port's refusal list (R164). -/
def refusalDepth : Nat := 4

/-- Blocks of a chain (R13). -/
def chainLength : Nat := 16

/-- The edit idle timer's span in seconds (R29). -/
def editIdleSeconds : Nat := 20

/-- The longest request frame in characters (R165). -/
def maxRequestFrame : Nat := 64

/-- The largest number of samples of a window, 5 × 4000 (R6). -/
def maxWindowSamples : Nat := 20000

/-- FREE VALUE: whether a swap comes before the end of the run when one event makes both conditions true; R83 says
they "may be taken in either order". Applied to `State.freeCount` (log 2). -/
opaque swapBeforeCompletion : Nat → Bool

/-- FREE VALUE: the displacement after a tick that would carry it out of the signed 48-bit range of R55, for which
the spec states no value. Applied to `State.freeCount` (log 3). -/
opaque displacementBeyondRange : Nat → BitVec 48

end Sys2Proof.Config
end

