-- ==== Sys2Proof/Machine/Data.lean ====
section
/-! DEFINITION. The data the part handles: the firing plan (chapter 1), gate results and records (chapters 6 and 7),
the faults of the commit check (1.8), and the answers and frames of the ports (chapters 10 and 11). -/

namespace Sys2Proof.Machine

/-- A rail of the track. -/
inductive Rail where
  | a
  | b
  deriving DecidableEq, Repr

/-! ## The firing plan -/

/-- What issues steps (R3). -/
inductive StepSource where
  | forward
  | reverse
  | timed
  deriving DecidableEq, Repr

/-- The channel priority of a bank (R3, R94). -/
inductive Priority where
  | fixed
  | rotating
  deriving DecidableEq, Repr

/-- The step settings of a bank (1.2): the timed period in µs. -/
structure StepSettings where
  source : StepSource
  pitch : Nat
  period : Nat
  priority : Priority
  headA : Link
  headB : Link
  deriving DecidableEq, Repr

/-- The kind of a gate (R9). -/
inductive GateKind where
  | coupling
  | peak
  | loss
  deriving DecidableEq, Repr

/-- The origin of a gate (R9). -/
inductive GateOrigin where
  | pulse
  | interface
  deriving DecidableEq, Repr

/-- A gate (R9): start and width in 0.1 µs units. -/
structure Gate where
  kind : GateKind
  origin : GateOrigin
  start : Nat
  width : Nat
  threshold : Nat
  deriving DecidableEq, Repr

/-- The seven fields of a probe entry that are not gates (1.3): pulse width in ns, gain in half-dB, window and settle
in 0.1 µs units, N (`lossRun`) and M (`recoveryRun`). -/
structure ProbeFields where
  level : Nat
  pulseWidth : Nat
  gain : Nat
  window : Nat
  settle : Nat
  lossRun : Nat
  recoveryRun : Nat
  deriving DecidableEq, Repr

/-- A probe entry: its fields and its four gate places, each empty or holding one gate (R8). -/
structure ProbeEntry where
  fields : ProbeFields
  gates : Vector (Option Gate) 4
  deriving DecidableEq, Repr

/-- The report rule of a block (R12). -/
inductive ReportRule where
  | always
  | onEvent
  deriving DecidableEq, Repr

/-- The excerpt length of a block (R12). -/
inductive ExcerptLen where
  | l64
  | l128
  | l256
  | l512
  deriving DecidableEq, Repr

/-- A shot block (1.5). -/
structure Block where
  inUse : Bool
  probe : ProbeNo
  decimation : Nat
  phase : Nat
  join : Bool
  report : ReportRule
  interval : Nat
  excerptLen : ExcerptLen
  next : Link
  deriving DecidableEq, Repr

/-- A bank of the Plan Store (R1). -/
structure Bank where
  settings : StepSettings
  probes : Vector ProbeEntry 24
  blocks : Vector Block 64
  deriving DecidableEq, Repr

/-- The commit state (R1). -/
inductive CommitState where
  | none
  | pending
  | copying
  deriving DecidableEq, Repr

/-- The fault kinds of the commit check (the table after R20). -/
inductive FaultKind where
  | runActive
  | couplingDuplicate
  | couplingOrigin
  | interfaceWithoutCoupling
  | gateBeyondWindow
  | phaseRange
  | blockNotInUse
  | chainLoop
  | chainTooLong
  | chainShared
  | wrongRail
  | joinAtHead
  | joinChain
  | joinSameProbe
  deriving DecidableEq, Repr

/-- A fault of the commit check with the entry at which it was found (R16). -/
structure CommitFault where
  kind : FaultKind
  rail : Option Rail
  block : Option BlockIx
  probe : Option ProbeNo
  place : Option Place
  deriving DecidableEq, Repr

/-- What the commit check reports on a pass (R16, R21, R22): cycle times in 0.1 µs units. -/
structure Figures where
  cycleA : Nat
  cycleB : Nat
  signature : BitVec 32
  deriving DecidableEq, Repr

/-! ## Shots and records -/

/-- The coupling state of a probe (R111). -/
inductive CouplingState where
  | unknown
  | coupled
  | doubt
  | uncoupled
  deriving DecidableEq, Repr

/-- The status of a gate result (R103). -/
inductive GateStatus where
  | hit
  | clear
  | unsynced
  deriving DecidableEq, Repr

/-- One entry of a shot's gate results (R104). -/
structure GateResult where
  place : Place
  kind : GateKind
  status : GateStatus
  peak : Nat
  time : Nat
  deriving DecidableEq, Repr

/-- The fields of a SHOT record written at the grant (R73, R132). -/
structure ShotGrant where
  stepNo : StepNo
  stepPos : Pos
  firePos : Pos
  rail : Rail
  probe : ProbeNo
  block : BlockIx
  joined : Bool
  snapshot : Bool
  dropped : Bool
  deriving DecidableEq, Repr

/-- The fields of a SHOT record: those of the grant and those of the window end (R132). The excerpt is on the page of
the slot. -/
structure Shot where
  grant : ShotGrant
  coupling : CouplingState
  alarmed : Bool
  saturated : Bool
  gates : List GateResult
  deriving DecidableEq, Repr

/-- The coverage of a skip run; it also tells the cause: whole steps for OVERRUN, a probe set for POOL (R77). -/
inductive Coverage where
  | wholeSteps
  | probeSet (probes : RailProbes)
  deriving DecidableEq, Repr

/-- An open skip run (R77). -/
structure SkipRun where
  first : StepNo
  last : StepNo
  cover : Coverage
  deriving DecidableEq, Repr

/-- The action of a marker (R51). -/
inductive MarkerAction where
  | mark
  | load
  deriving DecidableEq, Repr

/-- The event of a RUN record (R134). -/
inductive RunEvent where
  | start
  | completed
  | stopped
  deriving DecidableEq, Repr

/-- The change of a HOLD record (R134). -/
inductive HoldChange where
  | held
  | released
  deriving DecidableEq, Repr

/-- The kind of a record with the fields of its kind (R132 to R135). -/
inductive Body where
  | shot (x : Shot)
  | skip (rail : Rail) (run : SkipRun)
  | mark (m : Marker) (action : MarkerAction) (stepNo : StepNo)
  | coupling (probe : ProbeNo) (new : CouplingState) (stepNo : StepNo)
  | run (event : RunEvent) (label : BitVec 16) (last : StepNo)
  | plan (newEpoch : BitVec 16) (signature : BitVec 32) (active : Fin 2) (committer : Port)
  | hold (probe : ProbeNo) (change : HoldChange) (port : Port)
  | odometer (stepNo : StepNo)
  | noticesLost (count : BitVec 32)
  deriving DecidableEq, Repr

/-- A record without its sequence number: the common fields set at production (R131) and the fields of its kind. -/
structure Rec where
  run : BitVec 16
  epoch : BitVec 16
  position : Pos
  doubtful : Bool
  body : Body
  deriving DecidableEq, Repr

/-! ## The Record Pool -/

/-- The state of a slot that is not FREE (R120). -/
inductive SlotPhase where
  | assembling
  | queued
  deriving DecidableEq, Repr

/-- The record content of a slot: nothing written yet, a shot between its grant and its window end (with its block's
report rule), a record other than a shot or a reported shot without its number, or a record with its sequence
number. -/
inductive Content where
  | blank
  | shot (g : ShotGrant) (report : ReportRule)
  | unnumbered (r : Rec)
  | record (seq : BitVec 32) (r : Rec)
  deriving DecidableEq, Repr

/-- A page of the Excerpt Store that is attached to a slot: its number and its samples (R123). -/
structure Page where
  no : Nat
  samples : List Sample
  deriving DecidableEq, Repr

/-- A record slot that is not FREE (R119). -/
structure Slot where
  phase : SlotPhase
  refs : Nat
  content : Content
  page : Option Page
  deriving DecidableEq, Repr

/-! ## Ports -/

/-- An open gap, and the content of a gap marker (R136, R143). -/
structure Gap where
  count : BitVec 32
  first : BitVec 32
  last : BitVec 32
  deriving DecidableEq, Repr

/-- An entry of a port queue: a reference to the record of a slot, or a gap marker (R136). -/
inductive Entry where
  | ref (slot : Nat)
  | marker (g : Gap)
  deriving DecidableEq, Repr

/-- A subscription entry (R136). -/
structure Subscription where
  enabled : Bool
  matchVal : BitVec 6
  mask : BitVec 6
  deriving DecidableEq, Repr

/-- A snapshot entry; a CLAIMED one is bound to a shot, named by its slot (R136, R147). -/
inductive SnapEntry where
  | none
  | waiting (probe : ProbeNo)
  | claimed (probe : ProbeNo) (slot : Nat)
  deriving DecidableEq, Repr

/-- The run state (R152). -/
inductive RunState where
  | idle
  | running
  | finishing
  deriving DecidableEq, Repr

/-- The direction of the speed (R48). -/
inductive Direction where
  | still
  | increasing
  | decreasing
  deriving DecidableEq, Repr

/-- The reasons of a refusal (11.3), each with the data its answer carries. -/
inductive Reason where
  | notHolder
  | heldBy (holder : Port)
  | busy
  | invalid (f : CommitFault)
  | runActive
  | noRun
  | range (field : Nat)
  | notHeld
  | unknownRequest
  | frameError
  deriving DecidableEq, Repr

/-- An item of a bank as READ PLAN ENTRY returns it (R35). -/
inductive PlanItem where
  | settings (x : StepSettings)
  | probe (i : ProbeNo) (x : ProbeEntry)
  | block (i : BlockIx) (x : Block)
  deriving DecidableEq, Repr

/-- The role of a bank (R35). -/
inductive BankRole where
  | active
  | shadow
  deriving DecidableEq, Repr

/-- The values of a STATUS answer (R173). -/
structure Status where
  runState : RunState
  runNumber : BitVec 16
  stepNo : StepNo
  position : Pos
  doubtful : Bool
  speed : Nat
  direction : Direction
  lag : Int
  holder : Option Port
  commit : CommitState
  activeIx : Fin 2
  epoch : BitVec 16
  signature : BitVec 32
  freeSlots : Nat
  freePages : Nat
  waiting : Nat
  depth : Nat
  gapOpen : Bool
  holds : Vector PortSet 24
  coupling : Vector CouplingState 24
  deriving DecidableEq, Repr

/-- The data of a DONE answer (11.3). -/
inductive DoneData where
  | nothing
  | runNumber (n : BitVec 16)
  | planEntry (role : BankRole) (item : PlanItem) (activeIx : Fin 2) (epoch : BitVec 16) (commit : CommitState)
  | identity (p : Port)
  | status (x : Status)
  deriving DecidableEq, Repr

/-- The outcome of a request with what its answer carries (R166, 11.3). -/
inductive Reply where
  | done (d : DoneData)
  | pending (f : Figures)
  | refused (r : Reason)
  deriving DecidableEq, Repr

/-- A frame sent by the part (11.1, 11.3). -/
inductive TxFrame where
  | response (tag kind : Byte) (reply : Reply)
  | record (tag : Byte) (seq : BitVec 32) (r : Rec) (excerpt : Option (List Sample))
  | gap (tag : Byte) (g : Gap)
  | endTake (tag : Byte) (entries depth : Nat) (gapOpen : Bool)
  deriving DecidableEq, Repr

/-- The state of a Port Controller (R164). -/
inductive PortState where
  | absent
  | ready
  | answering
  | heldTake
  deriving DecidableEq, Repr

/-- A TAKE being answered or held: its tag, the count still to be sent and the entries sent (R164, R168). -/
structure TakeJob where
  tag : Byte
  left : Nat
  sent : Nat
  deriving DecidableEq, Repr

/-- The frame being sent: a refusal, a frame of an answer (a response or END), or the frame of the entry at the head
of the queue (R167, R168). -/
inductive Sending where
  | refusal (f : TxFrame)
  | answer (f : TxFrame)
  | entry (f : TxFrame)
  deriving DecidableEq, Repr

/-! ## Sequencers and channels -/

/-- A step: its number and its step position (R58). -/
structure Step where
  no : StepNo
  pos : Pos
  deriving DecidableEq, Repr

/-- The state of a rail sequencer (R64). -/
inductive SeqState where
  | off
  | waiting
  | requesting
  | listening
  deriving DecidableEq, Repr

/-- The state of the Step Generator (R55). -/
inductive GenState where
  | off
  | issuing
  | halted
  deriving DecidableEq, Repr

/-- The state of a capture channel (R87). -/
inductive ChanPhase where
  | free
  | listening
  | settling
  | held
  deriving DecidableEq, Repr

/-- What a granted channel is bound to (R87). The window timer runs towards a number of samples, the settle timer
towards a number of 0.1 µs units; `none` is stopped. -/
structure Binding where
  rail : Rail
  block : BlockIx
  probe : ProbeNo
  slot : Nat
  window : Option Nat
  settle : Option Nat
  deriving DecidableEq, Repr

/-- What a channel drives on the front-end bus (R5, R88). -/
structure FeDrive where
  probe : ProbeNo
  level : Nat
  pulseWidth : Nat
  gain : Nat
  deriving DecidableEq, Repr

/-- A gate under evaluation (R98): the largest sample so far, the sample number of the first sample that gave it, and
the covered samples (from, up to but not including), unknown while `none`. -/
structure GateAcc where
  place : Place
  gate : Gate
  largest : Option Sample
  peakTime : Nat
  cover : Option (Nat × Nat)
  deriving DecidableEq, Repr

/-- The excerpt being gathered (R98, R107): its length, the samples of the window, the largest value of the group so
far, and the excerpt samples complete so far, whose number is the index of the one being gathered. -/
structure ExcerptAcc where
  len : Nat
  total : Nat
  largest : Sample
  samples : List Sample
  deriving DecidableEq, Repr

/-- The state of a Gate Evaluator (R98). -/
structure Evaluator where
  gates : List GateAcc
  crossing : Option Nat
  excerpt : Option ExcerptAcc
  deriving DecidableEq, Repr

/-- The edge of a marker (R51). -/
inductive Edge where
  | rising
  | falling
  deriving DecidableEq, Repr

end Sys2Proof.Machine
end

