-- ==== Sys2Proof/Machine/Bytes.lean ====
section
/-! DEFINITION. Byte order and the two checks of chapter 11: the CRC-16 of frames (R174), the CRC-32 of a bank's
signature (R178), and the byte forms of the items of a bank (11.5). -/

namespace Sys2Proof.Machine

/-- `n` bytes of a number, least significant byte first (chapter 11). -/
def leBytes : Nat → Nat → List Byte
  | 0, _ => []
  | n + 1, x => BitVec.ofNat 8 x :: leBytes n (x / 256)

/-- The number that bytes, least significant first, stand for. -/
def leValue : List Byte → Nat
  | [] => 0
  | b :: rest => b.toNat + 256 * leValue rest

/-- A flag as a byte. -/
def flagByte (b : Bool) : Byte := if b then 1 else 0

/-- One bit of the CRC-16 of R174: polynomial 0x1021, most significant bit first. -/
def crc16Bit (c : BitVec 16) : BitVec 16 :=
  if c.getLsbD 15 then (c <<< 1) ^^^ 0x1021#16 else c <<< 1

/-- One byte of the CRC-16 of R174. -/
def crc16Byte (c : BitVec 16) (b : Byte) : BitVec 16 :=
  crc16Bit (crc16Bit (crc16Bit (crc16Bit (crc16Bit (crc16Bit (crc16Bit (crc16Bit
    (c ^^^ (b.setWidth 16 <<< 8)))))))))

/-- The check of a frame over its length, kind, tag and payload (R174): initial value 0xFFFF, no final inversion. -/
def crc16 (bytes : List Byte) : BitVec 16 := bytes.foldl crc16Byte 0xFFFF#16

/-- The two check bytes of a frame, high byte first (11.1). -/
def checkBytes (bytes : List Byte) : List Byte :=
  [(crc16 bytes >>> 8).setWidth 8, (crc16 bytes).setWidth 8]

/-- One bit of the CRC-32 of R178: the polynomial 0x04C11DB7 in a register whose bits are mirrored (log 32). -/
def crc32Bit (c : BitVec 32) : BitVec 32 :=
  if c.getLsbD 0 then (c >>> 1) ^^^ 0xEDB88320#32 else c >>> 1

/-- One byte of the CRC-32 of R178. -/
def crc32Byte (c : BitVec 32) (b : Byte) : BitVec 32 :=
  crc32Bit (crc32Bit (crc32Bit (crc32Bit (crc32Bit (crc32Bit (crc32Bit (crc32Bit
    (c ^^^ b.setWidth 32))))))))

/-- The CRC-32 of R178: initial value 0xFFFFFFFF, the result inverted. The spec does not say in which bit order the
remainder is read; the model reads the mirrored register, as the common CRC-32 does (log 32, PRESUMED). -/
def crc32 (bytes : List Byte) : BitVec 32 := ~~~ (bytes.foldl crc32Byte 0xFFFFFFFF#32)

/-! ## Codes and forms of 11.5 -/

/-- The code of a step source. -/
def StepSource.code : StepSource → Byte
  | .forward => 0
  | .reverse => 1
  | .timed => 2

/-- The step source a code in range names. -/
def StepSource.ofCode (b : Byte) : StepSource :=
  if b.toNat = 0 then .forward else if b.toNat = 1 then .reverse else .timed

/-- The code of a channel priority. -/
def Priority.code : Priority → Byte
  | .fixed => 0
  | .rotating => 1

/-- The code of a gate kind. -/
def GateKind.code : GateKind → Byte
  | .coupling => 0
  | .peak => 1
  | .loss => 2

/-- The gate kind a code in range names. -/
def GateKind.ofCode (b : Byte) : GateKind :=
  if b.toNat = 0 then .coupling else if b.toNat = 1 then .peak else .loss

/-- The code of a gate origin. -/
def GateOrigin.code : GateOrigin → Byte
  | .pulse => 0
  | .interface => 1

/-- The code of a report rule. -/
def ReportRule.code : ReportRule → Byte
  | .always => 0
  | .onEvent => 1

/-- The code of an excerpt length. -/
def ExcerptLen.code : ExcerptLen → Byte
  | .l64 => 0
  | .l128 => 1
  | .l256 => 2
  | .l512 => 3

/-- The excerpt length a code in range names. -/
def ExcerptLen.ofCode (b : Byte) : ExcerptLen :=
  if b.toNat = 0 then .l64 else if b.toNat = 1 then .l128 else if b.toNat = 2 then .l256 else .l512

/-- The number of samples of an excerpt length. -/
def ExcerptLen.count : ExcerptLen → Nat
  | .l64 => 64
  | .l128 => 128
  | .l256 => 256
  | .l512 => 512

/-- The manual's index of a block, 1 to 64. -/
def blockNumber (b : BlockIx) : Nat := b.val + 1

/-- The byte of a chain head or next field: 0 for none (R4, R13). -/
def linkByte (l : Link) : Byte :=
  match l with
  | none => 0
  | some b => BitVec.ofNat 8 (blockNumber b)

/-- The chain head or next field a byte of 0 to 64 stands for. -/
def linkOf (b : Byte) : Link :=
  if h : 1 ≤ b.toNat ∧ b.toNat ≤ 64 then some ⟨b.toNat - 1, by omega⟩ else none

/-- The probe a byte of 0 to 23 names. -/
def probeOf (b : Byte) : ProbeNo := Fin.ofNat 24 b.toNat

/-- The step settings form (10 bytes). -/
def settingsBytes (x : StepSettings) : List Byte :=
  [x.source.code] ++ leBytes 2 x.pitch ++ leBytes 4 x.period ++ [x.priority.code, linkByte x.headA, linkByte x.headB]

/-- The probe fields form (10 bytes). -/
def fieldsBytes (x : ProbeFields) : List Byte :=
  leBytes 1 x.level ++ leBytes 2 x.pulseWidth ++ leBytes 1 x.gain ++ leBytes 2 x.window ++ leBytes 2 x.settle ++
    leBytes 1 x.lossRun ++ leBytes 1 x.recoveryRun

/-- The gate place form (9 bytes); an empty place is nine zero bytes (R35, R178). -/
def gateBytes (g : Option Gate) : List Byte :=
  match g with
  | none => List.replicate 9 0
  | some g => [1, g.kind.code, g.origin.code] ++ leBytes 2 g.start ++ leBytes 2 g.width ++ leBytes 2 g.threshold

/-- The probe entry form (46 bytes). -/
def probeBytes (x : ProbeEntry) : List Byte :=
  fieldsBytes x.fields ++ x.gates.toList.flatMap gateBytes

/-- The shot block form (9 bytes) with the values stored, as READ PLAN ENTRY returns it. -/
def blockBytes (x : Block) : List Byte :=
  [flagByte x.inUse, BitVec.ofNat 8 x.probe.val] ++ leBytes 1 x.decimation ++ leBytes 1 x.phase ++
    [flagByte x.join, x.report.code] ++ leBytes 1 x.interval ++ [x.excerptLen.code, linkByte x.next]

/-- A block as it enters the signature: out of use, it stands as in the empty plan (R22, R178). -/
def blockCanonical (x : Block) : List Byte :=
  if x.inUse then blockBytes x else [0, 0, 1, 0, 0, 0, 0, 0, 0]

/-- The canonical form of a bank, 1690 bytes (R178). -/
def bankBytes (b : Bank) : List Byte :=
  settingsBytes b.settings ++ b.probes.toList.flatMap probeBytes ++ b.blocks.toList.flatMap blockCanonical

/-- The signature of a bank (R22, R178). -/
def signatureOf (b : Bank) : BitVec 32 := crc32 (bankBytes b)

/-! ## The empty plan (R14) -/

/-- The step settings of the empty plan. -/
def emptySettings : StepSettings :=
  { source := .forward, pitch := 12, period := 1000, priority := .fixed, headA := none, headB := none }

/-- A probe entry of the empty plan. -/
def emptyProbe : ProbeEntry :=
  { fields := { level := 1, pulseWidth := 100, gain := 0, window := 200, settle := 0, lossRun := 3, recoveryRun := 3 }
    gates := Vector.replicate 4 none }

/-- A shot block of the empty plan. -/
def emptyBlock : Block :=
  { inUse := false, probe := 0, decimation := 1, phase := 0, join := false, report := .always, interval := 0,
    excerptLen := .l64, next := none }

/-- The empty plan (R14). -/
def emptyPlan : Bank :=
  { settings := emptySettings, probes := Vector.replicate 24 emptyProbe, blocks := Vector.replicate 64 emptyBlock }

end Sys2Proof.Machine
end

