-- ==== Sys2Proof/Machine/State.lean ====
section
/-! DEFINITION. The state of the NK2412, unit by unit as the spec's chapters give it, the reasons a step can stop, and
the state right after hardware reset. -/

namespace Sys2Proof.Machine

/-- The Plan Store with the Edit Right Arbiter (R1, R23). -/
structure PlanStore where
  bank0 : Bank
  bank1 : Bank
  activeIx : Fin 2
  epoch : BitVec 16
  signature : BitVec 32
  commit : CommitState
  pendingSig : Option (BitVec 32)
  committer : Option Port
  holder : Option Port
  idleTimer : Option Nat
  deriving DecidableEq, Repr

/-- A marker of the Odometer Unit: its configuration, its lockout counter and the level last seen (R43, R51). -/
structure MarkerUnit where
  enabled : Bool
  edge : Edge
  lockout : Nat
  action : MarkerAction
  load : Pos
  counter : Nat
  level : Bool
  deriving DecidableEq, Repr

/-- The Odometer Unit (R43). -/
structure Odometer where
  lineA : Bool
  lineB : Bool
  num : Nat
  den : Nat
  rem : Nat
  position : Pos
  doubtful : Bool
  tally : Int
  speed : Nat
  direction : Direction
  m0 : MarkerUnit
  m1 : MarkerUnit
  deriving DecidableEq, Repr

/-- The Step Generator (R55). -/
structure StepGen where
  state : GenState
  source : StepSource
  disp : BitVec 48
  frontier : BitVec 48
  lastBoundary : Nat
  nextBoundary : Nat
  stepNo : StepNo
  timer : Option Nat
  deriving DecidableEq, Repr

/-- A rail sequencer (R63); `waiting` is the pending step. -/
structure Sequencer where
  state : SeqState
  current : Option Step
  waiting : Option Step
  walk : Link
  group : List BlockIx
  windows : Nat
  fired : Vector (BitVec 32) 64
  skip : Option SkipRun
  deriving DecidableEq, Repr

/-- A capture channel with its Gate Evaluator and its front-end outputs (R87, R98). `triggers` counts the pulses of
its trigger line (log 14). -/
structure Channel where
  phase : ChanPhase
  binding : Option Binding
  eval : Evaluator
  fe : Option FeDrive
  triggers : Nat
  deriving DecidableEq, Repr

/-- The Channel Arbiter (R91): the waiting request of each rail and the priority pointer. Whether a channel is free or
granted, and to which rail, is read from the channel. -/
structure Arbiter where
  reqA : Option Nat
  reqB : Option Nat
  pointer : Rail
  deriving DecidableEq, Repr

/-- What the Coupling Monitor holds for a probe (R111). -/
structure ProbeCoupling where
  state : CouplingState
  misses : Nat
  recoveries : Nat
  deriving DecidableEq, Repr

/-- The Coupling Monitor (R111). -/
structure Coupling where
  probes : Vector ProbeCoupling 24
  sprayA : Bool
  sprayB : Bool
  deriving DecidableEq, Repr

/-- The Record Pool with the Excerpt Store (R119). `slots` lists the slots that are not FREE by rising number; a page
is FREE when no slot listed has it. `waiting` is the pending list, oldest first. -/
structure Pool where
  slots : List (Nat × Slot)
  waiting : List Rec
  seq : BitVec 32
  lost : BitVec 32
  deriving DecidableEq, Repr

/-- What the Distribution Unit holds for a port (R136). -/
structure PortDist where
  subs : Vector Subscription 8
  general : Bool
  queue : List Entry
  gap : Option Gap
  threshold : Nat
  snap : SnapEntry
  attention : Bool
  deriving DecidableEq, Repr

/-- A Port Controller (R164). The answer in progress is `answers` (frames formed and waiting), `take` (a TAKE being
answered or held) and `sending` (the frame being sent). -/
structure PortCtl where
  state : PortState
  rx : List Byte
  refusals : List TxFrame
  answers : List TxFrame
  take : Option TakeJob
  sending : Option Sending
  holdTime : Nat
  heldTimer : Option Nat
  deriving DecidableEq, Repr

/-- A client port: its controller and its part of the Distribution Unit. -/
structure PortUnit where
  ctl : PortCtl
  dist : PortDist
  deriving DecidableEq, Repr

/-- The road of a record: the Record Pool and the ports. -/
structure Hub where
  pool : Pool
  ports : Vector PortUnit 4
  deriving DecidableEq, Repr

/-- Run Control with the hold table (R152). -/
structure RunControl where
  state : RunState
  number : BitVec 16
  label : BitVec 16
  limit : BitVec 24
  holds : Vector PortSet 24
  deriving DecidableEq, Repr

/-- The state of the part. `resetLow` is the level of RESET (low: hardware reset is in force); `freeCount` is the
model's own counter of free values (log 2); `pending` is the queue of commands that wait. -/
structure State where
  resetLow : Bool
  plan : PlanStore
  odo : Odometer
  gen : StepGen
  seqA : Sequencer
  seqB : Sequencer
  chans : Vector Channel 3
  arb : Arbiter
  coup : Coupling
  hub : Hub
  run : RunControl
  freeCount : Nat
  pending : List Instr
  deriving DecidableEq, Repr

/-- Why a step could stop with a fault: never. The block reports what goes wrong in its answers and notices and goes
on, so there is no constructor (safe: nothing is cut short). -/
inductive Fault where
  deriving DecidableEq, Repr

/-- Why a step could be refused. -/
inductive Refusal where
  /-- Raised by `exec` for a command without a meaning; no arm of `exec` raises it (safe: the model stops). -/
  | notModelled (mnemonic : String)
  deriving DecidableEq, Repr

/-! ## Hardware reset -/

/-- The Plan Store after hardware reset (R1, R23). -/
def PlanStore.reset : PlanStore :=
  { bank0 := emptyPlan, bank1 := emptyPlan, activeIx := 0, epoch := 0, signature := signatureOf emptyPlan,
    commit := .none, pendingSig := none, committer := none, holder := none, idleTimer := none }

/-- A marker after hardware reset (R43); its level is sampled at the release of RESET, and is low before (log 1). -/
def MarkerUnit.reset : MarkerUnit :=
  { enabled := false, edge := .rising, lockout := 0, action := .mark, load := 0, counter := 65535, level := false }

/-- The Odometer Unit after hardware reset (R43); the line pair is sampled at the release of RESET, and is low, low
before (log 1). -/
def Odometer.reset : Odometer :=
  { lineA := false, lineB := false, num := 1, den := 1, rem := 0, position := 0, doubtful := false, tally := 0,
    speed := 0, direction := .still, m0 := MarkerUnit.reset, m1 := MarkerUnit.reset }

/-- The Step Generator after hardware reset (R55). -/
def StepGen.reset : StepGen :=
  { state := .off, source := .forward, disp := 0, frontier := 0, lastBoundary := 0, nextBoundary := 0, stepNo := 0,
    timer := none }

/-- A rail sequencer after hardware reset (R63). -/
def Sequencer.reset : Sequencer :=
  { state := .off, current := none, waiting := none, walk := none, group := [], windows := 0,
    fired := Vector.replicate 64 0, skip := none }

/-- A Gate Evaluator with an empty gate list and no excerpt (R98). -/
def Evaluator.empty : Evaluator := { gates := [], crossing := none, excerpt := none }

/-- A capture channel after hardware reset (R87). -/
def Channel.reset : Channel :=
  { phase := .free, binding := none, eval := Evaluator.empty, fe := none, triggers := 0 }

/-- The Channel Arbiter after hardware reset (R91). -/
def Arbiter.reset : Arbiter := { reqA := none, reqB := none, pointer := .a }

/-- What the Coupling Monitor holds for a probe after hardware reset and at a run's start (R111). -/
def ProbeCoupling.reset : ProbeCoupling := { state := .unknown, misses := 0, recoveries := 0 }

/-- The Coupling Monitor after hardware reset (R111). -/
def Coupling.reset : Coupling :=
  { probes := Vector.replicate 24 ProbeCoupling.reset, sprayA := false, sprayB := false }

/-- The Record Pool after hardware reset (R119). -/
def Pool.reset : Pool := { slots := [], waiting := [], seq := 0, lost := 0 }

/-- A subscription entry after hardware and port reset (R136). -/
def Subscription.reset : Subscription := { enabled := false, matchVal := 0, mask := 0 }

/-- A port's part of the Distribution Unit after hardware and port reset (R136). -/
def PortDist.reset : PortDist :=
  { subs := Vector.replicate 8 Subscription.reset, general := false, queue := [], gap := none, threshold := 1,
    snap := .none, attention := false }

/-- A Port Controller after hardware and port reset (R164). -/
def PortCtl.reset : PortCtl :=
  { state := .absent, rx := [], refusals := [], answers := [], take := none, sending := none, holdTime := 0,
    heldTimer := none }

/-- A port after hardware and port reset. -/
def PortUnit.reset : PortUnit := { ctl := PortCtl.reset, dist := PortDist.reset }

/-- The pool and the ports after hardware reset. -/
def Hub.reset : Hub := { pool := Pool.reset, ports := Vector.replicate 4 PortUnit.reset }

/-- Run Control after hardware reset (R152). -/
def RunControl.reset : RunControl :=
  { state := .idle, number := 0, label := 0, limit := 0, holds := Vector.replicate 24 0 }

/-- The part right after hardware reset: RESET is low, and its release is the command RESET_RELEASE. -/
def State.reset : State :=
  { resetLow := true, plan := PlanStore.reset, odo := Odometer.reset, gen := StepGen.reset, seqA := Sequencer.reset,
    seqB := Sequencer.reset, chans := Vector.replicate 3 Channel.reset, arb := Arbiter.reset, coup := Coupling.reset,
    hub := Hub.reset, run := RunControl.reset, freeCount := 0, pending := [] }

end Sys2Proof.Machine
end

