-- ==== Sys2Proof/Machine/Ops.lean ====
section
/-! DEFINITION. The named operations over the parts of the state that every chapter uses: the sparse list of slots, the
pool's slots and pages, the banks, the rails' sequencers, the ports, and the common fields of a record. -/

namespace Sys2Proof.Machine

/-! ## A list of numbered cells in rising order -/

/-- The cell of a number. -/
def Cells.find {α : Type} (k : Nat) : List (Nat × α) → Option α
  | [] => none
  | (j, x) :: rest => if j = k then some x else Cells.find k rest

/-- The list with the cell of a number set, in rising order. -/
def Cells.put {α : Type} (k : Nat) (x : α) : List (Nat × α) → List (Nat × α)
  | [] => [(k, x)]
  | (j, y) :: rest =>
    if k < j then (k, x) :: (j, y) :: rest
    else if k = j then (k, x) :: rest
    else (j, y) :: Cells.put k x rest

/-- The list without the cell of a number. -/
def Cells.erase {α : Type} (k : Nat) : List (Nat × α) → List (Nat × α)
  | [] => []
  | (j, y) :: rest => if j = k then rest else (j, y) :: Cells.erase k rest

/-- The lowest number from `lo` on that is not in a rising list of numbers `lo` or more. -/
def Cells.firstFree {α : Type} (lo : Nat) : List (Nat × α) → Nat
  | [] => lo
  | (j, _) :: rest => if j = lo then Cells.firstFree (lo + 1) rest else lo

/-- Whether the numbers of a list rise strictly from `lo` on. -/
def Cells.risingFrom {α : Type} (lo : Nat) : List (Nat × α) → Bool
  | [] => true
  | (j, _) :: rest => decide (lo ≤ j) && Cells.risingFrom (j + 1) rest

/-! ## The Record Pool (chapter 7) -/

/-- The canonical form of the pool's slots: numbers strictly rising, all below 1024. -/
def Pool.wf (p : Pool) : Bool :=
  Cells.risingFrom 0 p.slots && p.slots.all (fun c => decide (c.1 < Config.slotCount))

/-- The slot of a number, `none` when it is FREE. -/
def Pool.slot (p : Pool) (n : Nat) : Option Slot := Cells.find n p.slots

/-- The number of FREE slots (R119). -/
def Pool.freeSlots (p : Pool) : Nat := Config.slotCount - p.slots.length

/-- The lowest FREE slot, if there is one (log 4). -/
def Pool.firstFreeSlot (p : Pool) : Option Nat :=
  if Cells.firstFree 0 p.slots < Config.slotCount then some (Cells.firstFree 0 p.slots) else none

/-- The pool with a slot set. -/
def Pool.putSlot (p : Pool) (n : Nat) (x : Slot) : Pool := { p with slots := Cells.put n x p.slots }

/-- The pool with a slot FREE: its record is discarded and its page, if it has one, is FREE with it (R120, R123). -/
def Pool.freeSlot (p : Pool) (n : Nat) : Pool := { p with slots := Cells.erase n p.slots }

/-- The numbers of the pages that are attached to slots. -/
def Pool.usedPages (p : Pool) : List Nat := p.slots.filterMap (fun c => c.2.page.map (fun g => g.no))

/-- The number of FREE pages (R119). -/
def Pool.freePages (p : Pool) : Nat := Config.pageCount - p.usedPages.length

/-- The lowest FREE page, if there is one (log 4). -/
def Pool.firstFreePage (p : Pool) : Option Nat :=
  (List.range Config.pageCount).find? (fun n => !p.usedPages.contains n)

/-- Writes the content of a slot that is not FREE. -/
def Pool.setContent (p : Pool) (n : Nat) (c : Content) : Pool :=
  match p.slot n with
  | some x => p.putSlot n { x with content := c }
  | none => p

/-- A slot that is ASSEMBLING and holds the content given and no page. -/
def Slot.assembling (c : Content) : Slot := { phase := .assembling, refs := 0, content := c, page := none }

/-! ## Ports -/

/-- The four ports in order. -/
def allPorts : List Port := [0, 1, 2, 3]

/-- The ports with one port replaced. -/
def Hub.setPort (h : Hub) (p : Port) (u : PortUnit) : Hub := { h with ports := h.ports.set p u }

/-- The Port Controller of a port. -/
def Hub.ctl (h : Hub) (p : Port) : PortCtl := h.ports[p].ctl

/-- The Distribution Unit's state of a port. -/
def Hub.dist (h : Hub) (p : Port) : PortDist := h.ports[p].dist

/-- Replaces the Port Controller of a port. -/
def Hub.setCtl (h : Hub) (p : Port) (c : PortCtl) : Hub := h.setPort p { h.ports[p] with ctl := c }

/-- Replaces the Distribution Unit's state of a port. -/
def Hub.setDist (h : Hub) (p : Port) (d : PortDist) : Hub := h.setPort p { h.ports[p] with dist := d }

/-- Whether a port is in a set of ports. -/
def portIn (p : Port) (x : PortSet) : Bool := x.getLsbD p.val

/-- A set of ports with one port added. -/
def portAdd (p : Port) (x : PortSet) : PortSet := x ||| BitVec.twoPow 4 p.val

/-- A set of ports with one port removed. -/
def portRemove (p : Port) (x : PortSet) : PortSet := x &&& ~~~ BitVec.twoPow 4 p.val

/-! ## Banks -/

/-- The active bank (R1). -/
def PlanStore.activeBank (x : PlanStore) : Bank := if x.activeIx = 0 then x.bank0 else x.bank1

/-- The shadow bank (R1). -/
def PlanStore.shadowBank (x : PlanStore) : Bank := if x.activeIx = 0 then x.bank1 else x.bank0

/-- Replaces the shadow bank. -/
def PlanStore.setShadow (x : PlanStore) (b : Bank) : PlanStore :=
  if x.activeIx = 0 then { x with bank1 := b } else { x with bank0 := b }

/-- The active bank of the part. -/
def State.bank (s : State) : Bank := s.plan.activeBank

/-- A block of a bank. -/
def Bank.block (b : Bank) (i : BlockIx) : Block := b.blocks[i]

/-- A probe entry of a bank. -/
def Bank.probe (b : Bank) (i : ProbeNo) : ProbeEntry := b.probes[i]

/-- The chain head of a rail (R4). -/
def Bank.head (b : Bank) (r : Rail) : Link :=
  match r with
  | .a => b.settings.headA
  | .b => b.settings.headB

/-! ## Rails -/

/-- The other rail. -/
def Rail.other : Rail → Rail
  | .a => .b
  | .b => .a

/-- The rail of a probe (1.3). -/
def railOf (p : ProbeNo) : Rail := if p.val < 12 then .a else .b

/-- The probe within its rail, 0 to 11 (R137). -/
def withinRail (p : ProbeNo) : Nat := if p.val < 12 then p.val else p.val - 12

/-- The sequencer of a rail. -/
def State.seq (s : State) (r : Rail) : Sequencer :=
  match r with
  | .a => s.seqA
  | .b => s.seqB

/-- Replaces the sequencer of a rail. -/
def State.setSeq (s : State) (r : Rail) (x : Sequencer) : State :=
  match r with
  | .a => { s with seqA := x }
  | .b => { s with seqB := x }

/-- The waiting request of a rail (R91). -/
def Arbiter.req (a : Arbiter) (r : Rail) : Option Nat :=
  match r with
  | .a => a.reqA
  | .b => a.reqB

/-- Replaces the waiting request of a rail. -/
def Arbiter.setReq (a : Arbiter) (r : Rail) (k : Option Nat) : Arbiter :=
  match r with
  | .a => { a with reqA := k }
  | .b => { a with reqB := k }

/-- The three channels in order. -/
def allChans : List Chan := [0, 1, 2]

/-- The FREE channels, lowest number first. -/
def State.freeChans (s : State) : List Chan := allChans.filter (fun c => decide (s.chans[c].phase = .free))

/-- Replaces a channel. -/
def State.setChan (s : State) (c : Chan) (x : Channel) : State := { s with chans := s.chans.set c x }

/-- A channel returned to FREE: no binding and nothing driven (R87, R88). -/
def Channel.release (x : Channel) : Channel := { x with phase := .free, binding := none, fe := none }

/-- Whether a channel is granted to a rail. -/
def Channel.ofRail (x : Channel) (r : Rail) : Bool :=
  match x.binding with
  | some b => decide (b.rail = r)
  | none => false

/-! ## Records -/

/-- A record of the part with the common fields of its production (R131): the run number is 0 while IDLE. -/
def State.mkRec (s : State) (body : Body) : Rec :=
  { run := if s.run.state = .idle then 0 else s.run.number
    epoch := s.plan.epoch
    position := s.odo.position
    doubtful := s.odo.doubtful
    body := body }

/-- The step number a MARK or ODOMETER record carries: that of the last step of the current run, 0 while IDLE
(R133, R135). -/
def State.runStepNo (s : State) : StepNo := if s.run.state = .idle then 0 else s.gen.stepNo

/-- What takes place while RESET is released; while RESET is low hardware reset is in force and nothing else does
(00_scope.md, external connections; log 13). -/
def whileReleased (f : State → State) (s : State) : Host.Outcome State Fault Refusal :=
  .next (if s.resetLow then s else f s)

end Sys2Proof.Machine
end

