-- ==== Sys2Proof/Machine/Flags.lean ====
section
/-! DEFINITION. The lines and flags that follow a condition: the attention lines (R150), the spray lines (R118), and
the alarmed and saturated flags of a shot (R105, R106). -/

namespace Sys2Proof.Machine

/-- Whether a record is a general record: of a kind other than SHOT and SKIP (R135). -/
def Body.general : Body → Bool
  | .shot _ => false
  | .skip _ _ => false
  | .mark _ _ _ => true
  | .coupling _ _ _ => true
  | .run _ _ _ => true
  | .plan _ _ _ _ => true
  | .hold _ _ _ => true
  | .odometer _ => true
  | .noticesLost _ => true

/-- Whether a queue entry is a reference to a general record. -/
def entryGeneral (pool : Pool) : Entry → Bool
  | .marker _ => false
  | .ref n =>
    match pool.slot n with
    | some x =>
      match x.content with
      | .record _ r => r.body.general
      | .blank => false
      | .shot _ _ => false
      | .unnumbered _ => false
    | none => false

/-- The condition of a port's attention line (R150). -/
def attentionOf (pool : Pool) (d : PortDist) : Bool :=
  decide (d.threshold ≤ d.queue.length) || d.queue.any (entryGeneral pool) || d.gap.isSome

/-- Replaces the Distribution Unit's state of a port, its attention line following (R150). -/
def Hub.putDist (h : Hub) (p : Port) (d : PortDist) : Hub :=
  h.setDist p { d with attention := attentionOf h.pool d }

/-- The probes of a rail. -/
def probesOf : Rail → List ProbeNo
  | .a => [0, 1, 2, 3, 4, 5, 6, 7, 8, 9, 10, 11]
  | .b => [12, 13, 14, 15, 16, 17, 18, 19, 20, 21, 22, 23]

/-- The condition of a rail's spray line (R118). -/
def State.sprayDue (s : State) (r : Rail) : Bool :=
  decide (s.run.state ≠ .idle) && (probesOf r).any (fun p => decide (s.coup.probes[p].state = .uncoupled))

/-- The spray lines follow their conditions (R118). -/
def State.refreshSpray (s : State) : State :=
  { s with coup := { s.coup with sprayA := s.sprayDue .a, sprayB := s.sprayDue .b } }

/-- A shot is saturated when one of its gate results carries a peak of 1023 (R105). -/
def saturatedOf (gates : List GateResult) : Bool := gates.any (fun g => decide (g.peak = 1023))

/-- A shot is alarmed when a PEAK or LOSS gate is HIT (R106). -/
def alarmedOf (gates : List GateResult) : Bool :=
  gates.any (fun g => decide (g.kind ≠ .coupling) && decide (g.status = .hit))

end Sys2Proof.Machine
end

