-- ==== Sys2Proof/Machine/Ports.lean ====
section
/-! DEFINITION. The transmit side of a port (R167, R168), the refusals it forms, the answers it is given, and the
taking of a request (R166, R170). -/

namespace Sys2Proof.Machine

/-- The record frame of a slot as it stands when its entry comes to be sent, with the excerpt of its page (R168,
R177). -/
def Pool.recordFrame (pool : Pool) (tag : Byte) (n : Nat) : Option TxFrame :=
  match pool.slot n with
  | some x =>
    match x.content with
    | .record seq r => some (.record tag seq r (x.page.map (fun g => g.samples)))
    | .blank => none
    | .shot _ _ => none
    | .unnumbered _ => none
  | none => none

/-- Begins to send a frame. -/
def Hub.send (h : Hub) (p : Port) (f : Sending) : Hub := h.setCtl p { h.ctl p with sending := some f }

/-- Ends a TAKE: the END frame with the entries sent, the depth and the gap as they then stand is sent (R168). -/
def Hub.sendEnd (h : Hub) (p : Port) (t : TakeJob) : Hub :=
  h.setCtl p
    { h.ctl p with
      take := none
      sending := some (.answer (.endTake t.tag t.sent (h.dist p).queue.length (h.dist p).gap.isSome)) }

/-- Sends the next frame of a TAKE: the head entry of the queue; or, on an empty queue with a gap open, the gap closed
into a marker (R144); or END (R168). An entry whose slot holds no record does not occur. -/
def Hub.sendTake (h : Hub) (p : Port) (t : TakeJob) : Hub :=
  if t.left = 0 then h.sendEnd p t
  else
    match (h.dist p).queue with
    | .ref n :: _ =>
      match h.pool.recordFrame t.tag n with
      | some f => h.send p (.entry f)
      | none => h.sendEnd p t
    | .marker g :: _ => h.send p (.entry (.gap t.tag g))
    | [] =>
      match (h.dist p).gap with
      | some g => (h.putDist p { h.dist p with queue := [.marker g], gap := none }).send p (.entry (.gap t.tag g))
      | none => h.sendEnd p t

/-- The transmit side, when it is idle, chooses its next frame: the oldest refusal, else the next frame of the answer in
progress (R167). Refusals, and an END or response that waits, are sent also while a TAKE is held, where R169 says that
nothing is sent: the model reads R169 of the held TAKE's own answer (log 34). -/
def Hub.startNext (h : Hub) (p : Port) : Hub :=
  match (h.ctl p).sending with
  | some _ => h
  | none =>
    match (h.ctl p).refusals with
    | f :: rest => h.setCtl p { h.ctl p with refusals := rest, sending := some (.refusal f) }
    | [] =>
      match (h.ctl p).answers with
      | f :: rest => h.setCtl p { h.ctl p with answers := rest, sending := some (.answer f) }
      | [] =>
        match (h.ctl p).take with
        | some t => if (h.ctl p).state = .answering then h.sendTake p t else h
        | none => h

/-- Forms a BUSY or FRAME_ERROR refusal: it joins the refusal list, or is discarded when 4 wait (R167). -/
def Hub.refuse (h : Hub) (p : Port) (f : TxFrame) : Hub :=
  if (h.ctl p).refusals.length < Config.refusalDepth then
    (h.setCtl p { h.ctl p with refusals := (h.ctl p).refusals ++ [f] }).startNext p
  else h

/-- The FRAME_ERROR refusal: request kind 0 and tag 0 (R165, 11.3). -/
def frameErrorFrame : TxFrame := .response 0 0 (.refused .frameError)

/-- Gives a port the frame of an answer; the port is ANSWERING until it has been sent (R166). -/
def Hub.answerFrame (h : Hub) (p : Port) (f : TxFrame) : Hub :=
  (h.setCtl p { h.ctl p with state := .answering, answers := (h.ctl p).answers ++ [f] }).startNext p

/-- Answers a request with a response (R166). -/
def Hub.answer (h : Hub) (p : Port) (tag kind : Byte) (r : Reply) : Hub := h.answerFrame p (.response tag kind r)

/-- An arrival ends a held TAKE: the timer stops, the port enters ANSWERING and the TAKE is answered (R170). -/
def Hub.wake (h : Hub) (p : Port) : Hub :=
  if (h.ctl p).state = .heldTake ∧ (h.dist p).queue ≠ [] then
    (h.setCtl p { h.ctl p with state := .answering, heldTimer := none }).startNext p
  else h

/-- Ends a held TAKE without an entry: the timer stops and END with 0 entries, depth 0 and no gap is sent; the port is
left in the state given (R170). -/
def Hub.endHold (h : Hub) (p : Port) (next : PortState) : Hub :=
  match (h.ctl p).take with
  | some t =>
    (h.setCtl p
      { h.ctl p with
        state := next
        heldTimer := none
        take := none
        answers := (h.ctl p).answers ++ [.endTake t.tag 0 0 false] }).startNext p
  | none => h.setCtl p { h.ctl p with state := next, heldTimer := none }

/-- A change of the pool and the ports of the part. -/
def State.withHub (s : State) (h : Hub) : State := { s with hub := h }

/-- The receive buffer of a port emptied: the frame it held is complete (log 10). -/
def State.clearRx (s : State) (p : Port) : State :=
  s.withHub (s.hub.setCtl p { s.hub.ctl p with rx := [] })

/-- A complete request frame with its tag and kind is handled according to the port state (R166); `act` carries the
request out and answers it. -/
def State.receive (s : State) (p : Port) (tag kind : Byte) (act : State → State) : State :=
  match (s.hub.ctl p).state with
  | .absent => s
  | .answering =>
    (s.clearRx p).withHub ((s.clearRx p).hub.refuse p (.response tag kind (.refused .busy)))
  | .ready => act (s.clearRx p)
  | .heldTake => act ((s.clearRx p).withHub ((s.clearRx p).hub.endHold p .ready))

/-- Carries a request out by the rule of its block, and answers it from the state as it then stands (R166). -/
def State.respond (s : State) (p : Port) (tag kind : Byte) (serve : State → State × Reply) : State :=
  (serve s).1.withHub ((serve s).1.hub.answer p tag kind (serve s).2)

/-- A request other than TAKE. -/
def State.request (s : State) (p : Port) (tag kind : Byte) (serve : State → State × Reply) : State :=
  s.receive p tag kind (fun t => t.respond p tag kind serve)

end Sys2Proof.Machine
end

