-- ==== Sys2Proof/Machine/Distribution.lean ====
section
/-! DEFINITION. Distribution to ports (chapter 8) and the road of a record through the pool (chapter 7): matching,
the offer to a queue, fan-out, the pending list, the release of references, and NOTICES_LOST. -/

namespace Sys2Proof.Machine

/-- The stream key of a SHOT or SKIP record (R137). -/
def Body.streamKey : Body → Option (BitVec 6)
  | .shot x => some (BitVec.ofNat 6 ((if x.grant.rail = .a then 0 else 16) + withinRail x.grant.probe))
  | .skip rail _ => some (BitVec.ofNat 6 (32 + (if rail = .a then 0 else 16) + 15))
  | .mark _ _ _ => none
  | .coupling _ _ _ => none
  | .run _ _ _ => none
  | .plan _ _ _ _ => none
  | .hold _ _ _ => none
  | .odometer _ => none
  | .noticesLost _ => none

/-- Whether a record is a SHOT record. -/
def Body.isShot : Body → Bool
  | .shot _ => true
  | .skip _ _ => false
  | .mark _ _ _ => false
  | .coupling _ _ _ => false
  | .run _ _ _ => false
  | .plan _ _ _ _ => false
  | .hold _ _ _ => false
  | .odometer _ => false
  | .noticesLost _ => false

/-- Whether a subscription entry matches a stream key (R138). -/
def Subscription.hits (x : Subscription) (key : BitVec 6) : Bool :=
  x.enabled && decide ((key ^^^ x.matchVal) &&& x.mask = 0)

/-- Whether a port's snapshot entry is CLAIMED and bound to the shot of a slot (R148). -/
def SnapEntry.boundTo (e : SnapEntry) (n : Nat) : Bool :=
  match e with
  | .none => false
  | .waiting _ => false
  | .claimed _ m => decide (m = n)

/-- Whether a port wants the record of a slot (R138). -/
def PortDist.wants (d : PortDist) (n : Nat) (r : Rec) : Bool :=
  match r.body.streamKey with
  | some key => d.subs.toList.any (fun x => x.hits key) || (r.body.isShot && d.snap.boundTo n)
  | none => d.general

/-- The gap that a record not taken joins: the count rises, up to its largest value (R143). -/
def Gap.grow (g : Gap) (seq : BitVec 32) : Gap :=
  { g with count := if g.count = 0xFFFFFFFF#32 then g.count else g.count + 1, last := seq }

/-- Offers the record of a slot to a queue (R142, R143); the flag tells whether a reference was appended. -/
def PortDist.offer (d : PortDist) (seq : BitVec 32) (n : Nat) : PortDist × Bool :=
  match d.gap with
  | none =>
    if d.queue.length < Config.queueDepth then ({ d with queue := d.queue ++ [.ref n] }, true)
    else ({ d with gap := some { count := 1, first := seq, last := seq } }, false)
  | some g =>
    if d.queue.length + 2 ≤ Config.queueDepth then
      ({ d with queue := d.queue ++ [.marker g, .ref n], gap := none }, true)
    else ({ d with gap := some (g.grow seq) }, false)

/-- A snapshot entry bound to the shot of a slot is consumed at the fan-out of its SHOT record (R148). -/
def PortDist.consume (d : PortDist) (n : Nat) (r : Rec) : PortDist :=
  if r.body.isShot && d.snap.boundTo n then { d with snap := .none } else d

/-- Offers the record of a slot to one port that wants it, counting the references appended (R141). -/
def Hub.offerTo (n : Nat) (seq : BitVec 32) (r : Rec) (acc : Hub × Nat) (p : Port) : Hub × Nat :=
  if (acc.1.dist p).wants n r then
    (acc.1.putDist p (((acc.1.dist p).offer seq n).1.consume n r),
      if ((acc.1.dist p).offer seq n).2 then acc.2 + 1 else acc.2)
  else acc

/-- The sequence number after a number; 0 is given to no record (R126). -/
def nextSeq (x : BitVec 32) : BitVec 32 := if x = 0xFFFFFFFF#32 then 1 else x + 1

/-- The hub with the pool replaced. -/
def Hub.withPool (h : Hub) (p : Pool) : Hub := { h with pool := p }

/-- The slot after fan-out: QUEUED with its references, or FREE with its page when there are none (R125). -/
def Pool.finishFanOut (pool : Pool) (n refs : Nat) : Pool :=
  if refs = 0 then pool.freeSlot n
  else
    match pool.slot n with
    | some x => pool.putSlot n { x with phase := .queued, refs := refs }
    | none => pool

/-- Fan-out of a completed record from its slot (R125): it takes the next sequence number, is offered to every port
that wants it, and its slot becomes QUEUED or FREE. Ports that hold a TAKE then answer it (R170). -/
def Hub.fanOut (h : Hub) (n : Nat) (r : Rec) : Hub :=
  let seq := nextSeq h.pool.seq
  let h1 := h.withPool { h.pool.setContent n (.record seq r) with seq := seq }
  let o := allPorts.foldl (Hub.offerTo n seq r) (h1, 0)
  allPorts.foldl Hub.wake (o.1.withPool (o.1.pool.finishFanOut n o.2))

/-- A record takes a FREE slot and is fanned out. -/
def Hub.place (h : Hub) (n : Nat) (r : Rec) : Hub :=
  (h.withPool (h.pool.putSlot n (Slot.assembling (.unnumbered r)))).fanOut n r

/-- FREE slots go to the oldest records of the pending list, at most `fuel` of them (R127). -/
def Hub.drainUpTo : Nat → Hub → Hub
  | 0, h => h
  | fuel + 1, h =>
    match h.pool.waiting, h.pool.firstFreeSlot with
    | r :: rest, some n => Hub.drainUpTo fuel ((h.withPool { h.pool with waiting := rest }).place n r)
    | _, _ => h

/-- FREE slots are offered to the pending list until it is empty or no slot is FREE (R127). -/
def Hub.drain (h : Hub) : Hub := Hub.drainUpTo h.pool.waiting.length h

/-- A record other than a shot is handed to the pool: it takes a FREE slot, or waits in the pending list, or is lost
(R124, R128). -/
def Hub.hand (h : Hub) (r : Rec) : Hub :=
  match h.pool.waiting, h.pool.firstFreeSlot with
  | [], some n => h.place n r
  | _, _ =>
    if h.pool.waiting.length < Config.pendingListDepth then
      h.withPool { h.pool with waiting := h.pool.waiting ++ [r] }
    else
      h.withPool { h.pool with lost := if h.pool.lost = 0xFFFFFFFF#32 then h.pool.lost else h.pool.lost + 1 }

/-- One reference to the record of a slot is released; with the last one the slot becomes FREE and is offered to the
pending list (R121). -/
def Hub.releaseRef (h : Hub) (n : Nat) : Hub :=
  match h.pool.slot n with
  | some x =>
    if x.refs ≤ 1 then (h.withPool (h.pool.freeSlot n)).drain
    else h.withPool (h.pool.putSlot n { x with refs := x.refs - 1 })
  | none => h

/-- The reference of a queue entry is released; a gap marker releases nothing (R121, R145). -/
def Hub.releaseEntry (h : Hub) (e : Entry) : Hub :=
  match e with
  | .ref n => h.releaseRef n
  | .marker _ => h

/-- A record with the fields given is produced and handed to the pool. -/
def State.handRecord (s : State) (body : Body) : State := s.withHub (s.hub.hand (s.mkRec body))

/-- At the end of an event of the pool, with the pending list empty, losses counted and a slot FREE, a NOTICES_LOST
notice is fanned out and the count returns to 0 (R129). -/
def State.endPool (s : State) : State :=
  match s.hub.pool.waiting, s.hub.pool.firstFreeSlot with
  | [], some n =>
    if s.hub.pool.lost = 0 then s
    else
      s.withHub
        ((s.hub.withPool { s.hub.pool with lost := 0 }).place n (s.mkRec (.noticesLost s.hub.pool.lost)))
  | _, _ => s

end Sys2Proof.Machine
end

