-- ==== Sys2Proof/Machine/Gates.lean ====
section
/-! DEFINITION. The Gate Evaluator (6.1, 6.3): what it takes at the grant, what each sample does to it, and the gate
results it gives at the window end. -/

namespace Sys2Proof.Machine

/-- The first 5W values standing on a stream: past the end of the list the last value goes on standing (R89). -/
def streamSamples : Nat → Sample → List Sample → List Sample
  | 0, _, _ => []
  | n + 1, v, [] => v :: streamSamples n v []
  | n + 1, v, w :: rest => v :: streamSamples n w rest

/-- A gate at the grant (R98): a PULSE gate's covered samples are fixed (R99), an INTERFACE gate's unknown. The spec
gives no peak time before a covered sample; the 0 is the model's choice (log 30). -/
def GateAcc.start (i : Place) (g : Gate) : GateAcc :=
  { place := i
    gate := g
    largest := none
    peakTime := 0
    cover :=
      match g.origin with
      | .pulse => some (5 * g.start, 5 * (g.start + g.width))
      | .interface => none }

/-- The gate list of a probe entry: its occupied places in place order (R8, R98). -/
def gateListOf (e : ProbeEntry) : List GateAcc :=
  ([0, 1, 2, 3] : List Place).filterMap fun i => (e.gates[i]).map (GateAcc.start i)

/-- The Gate Evaluator at the grant (R98), with an excerpt of `len` samples over a window of `total` samples if the
shot carries one. The spec gives no largest value of an excerpt's group before its first sample; the 0 is the model's
choice (log 30). -/
def Evaluator.start (e : ProbeEntry) (excerpt : Option Nat) (total : Nat) : Evaluator :=
  { gates := gateListOf e
    crossing := none
    excerpt := excerpt.map (fun len => { len := len, total := total, largest := 0, samples := [] }) }

/-- Whether a gate covers a sample. -/
def GateAcc.covers (g : GateAcc) (n : Nat) : Bool :=
  match g.cover with
  | some (lo, hi) => decide (lo ≤ n ∧ n < hi)
  | none => false

/-- A gate compares a sample that it covers with its largest so far; an equal value does not move the peak (R102). -/
def GateAcc.take (g : GateAcc) (n : Nat) (v : Sample) : GateAcc :=
  if g.covers n then
    match g.largest with
    | none => { g with largest := some v, peakTime := n }
    | some m => if m < v then { g with largest := some v, peakTime := n } else g
  else g

/-- An INTERFACE gate's covered samples become known at the crossing sample (R101). -/
def GateAcc.sync (g : GateAcc) (crossing : Nat) : GateAcc :=
  match g.gate.origin with
  | .interface => { g with cover := some (crossing + 5 * g.gate.start, crossing + 5 * (g.gate.start + g.gate.width)) }
  | .pulse => g

/-- Whether a sample is the crossing: the coupling gate covers it and its value reaches the threshold (R100). -/
def Evaluator.crosses (e : Evaluator) (n : Nat) (v : Sample) : Bool :=
  match e.gates.find? (fun g => decide (g.gate.kind = .coupling)) with
  | some g => g.covers n && decide (g.gate.threshold ≤ v.val)
  | none => false

/-- The excerpt takes a sample: the group is complete at its last sample, and gives its largest value (R107). The next
group begins with a largest value of 0, the model's choice (log 30). -/
def ExcerptAcc.take (x : ExcerptAcc) (n : Nat) (v : Sample) : ExcerptAcc :=
  if n + 1 = (x.samples.length + 1) * x.total / x.len then
    { x with samples := x.samples ++ [max x.largest v], largest := 0 }
  else { x with largest := max x.largest v }

/-- The Gate Evaluator takes the sample of a number (R98 to R102, R107). The first crossing places the INTERFACE gates
before the sample is compared, so that it counts in a gate of start 0 (R101). -/
def Evaluator.take (e : Evaluator) (n : Nat) (v : Sample) : Evaluator :=
  let now := e.crossing.isNone && e.crosses n v
  { gates := e.gates.map (fun g => (if now then g.sync n else g).take n v)
    crossing := if now then some n else e.crossing
    excerpt := e.excerpt.map (fun x => x.take n v) }

/-- The Gate Evaluator takes samples in order, the first of them numbered `n`. -/
def Evaluator.run (e : Evaluator) (n : Nat) : List Sample → Evaluator
  | [] => e
  | v :: rest => Evaluator.run (e.take n v) (n + 1) rest

/-- Whether a gate is HIT by its kind, largest sample and threshold (R103). -/
def Gate.isHit (g : Gate) (peak : Nat) : Bool :=
  match g.kind with
  | .peak => decide (g.threshold ≤ peak)
  | .loss => decide (peak < g.threshold)
  | .coupling => decide (g.threshold ≤ peak)

/-- The result of a gate at the window end (R101 to R104): UNSYNCED when its covered samples never became known. -/
def GateAcc.result (g : GateAcc) : GateResult :=
  match g.cover with
  | none => { place := g.place, kind := g.gate.kind, status := .unsynced, peak := 0, time := 0 }
  | some _ =>
    let peak := (g.largest.map (fun v => v.val)).getD 0
    { place := g.place
      kind := g.gate.kind
      status := if g.gate.isHit peak then .hit else .clear
      peak := peak
      time := g.peakTime }

/-- The gate results of a shot, in place order (R104). -/
def Evaluator.results (e : Evaluator) : List GateResult := e.gates.map GateAcc.result

/-- The status of the COUPLING gate in a gate result list: whether it is HIT, `none` without such a gate (R112). -/
def couplingHit (gates : List GateResult) : Option Bool :=
  (gates.find? (fun g => decide (g.kind = .coupling))).map (fun g => decide (g.status = .hit))

end Sys2Proof.Machine
end

