-- ==== Sys2Proof/Machine/Coupling.lean ====
section
/-! DEFINITION. The Coupling Monitor (6.5, 6.6) and the completion of a shot at its window end (R109, R110). -/

namespace Sys2Proof.Machine

/-- A coupling hit (R113). -/
def ProbeCoupling.hit (x : ProbeCoupling) (m : Nat) : ProbeCoupling :=
  match x.state with
  | .unknown => { x with state := .coupled, misses := 0 }
  | .coupled => { x with misses := 0 }
  | .doubt => { x with state := .coupled, misses := 0 }
  | .uncoupled =>
    if m ≤ x.recoveries + 1 then { state := .coupled, misses := 0, recoveries := 0 }
    else { x with recoveries := x.recoveries + 1 }

/-- A miss of a probe that is not UNCOUPLED (R114). -/
def ProbeCoupling.addMiss (x : ProbeCoupling) (n : Nat) : ProbeCoupling :=
  if n ≤ x.misses + 1 then { state := .uncoupled, misses := 0, recoveries := 0 }
  else { x with state := .doubt, misses := x.misses + 1 }

/-- A coupling miss (R114). -/
def ProbeCoupling.miss (x : ProbeCoupling) (n : Nat) : ProbeCoupling :=
  match x.state with
  | .unknown => x.addMiss n
  | .coupled => x.addMiss n
  | .doubt => x.addMiss n
  | .uncoupled => { x with recoveries := 0 }

/-- Whether a change of coupling state is reported in a COUPLING notice: it enters or leaves UNCOUPLED (R116). -/
def couplingNotice (before after : CouplingState) : Bool :=
  decide (before ≠ after) && (decide (before = .uncoupled) || decide (after = .uncoupled))

/-- The Coupling Monitor takes the coupling-gate status of a shot, `none` without a COUPLING gate (R109, step 2; R112,
R117, R118). -/
def State.couple (s : State) (p : ProbeNo) (hit : Option Bool) (stepNo : StepNo) : State :=
  match hit with
  | none => s
  | some h =>
    let x := s.coup.probes[p]
    let f := (s.bank.probe p).fields
    let y := if h then x.hit f.recoveryRun else x.miss f.lossRun
    let t := { s with coup := { s.coup with probes := s.coup.probes.set p y } }
    if couplingNotice x.state y.state then (t.handRecord (.coupling p y.state stepNo)).refreshSpray else t

/-- The report decision (R110). -/
def reportDecision (report : ReportRule) (g : ShotGrant) (gates : List GateResult) (changed excerpt : Bool) : Bool :=
  match report with
  | .always => true
  | .onEvent => alarmedOf gates || changed || excerpt || g.dropped || g.snapshot || saturatedOf gates

/-- The record of a reported shot is fanned out with its excerpt on the page (R109, step 5). -/
def Hub.report (h : Hub) (n : Nat) (x : Slot) (samples : Option (List Sample)) (r : Rec) : Hub :=
  ((h.withPool
    (h.pool.putSlot n { x with page := x.page.map (fun g => { g with samples := samples.getD [] }) })).fanOut n r).drain

/-- The slot of a shot that is not reported becomes FREE (R110). -/
def Hub.discardShot (h : Hub) (n : Nat) : Hub := (h.withPool (h.pool.freeSlot n)).drain

/-- The SHOT record's fields after the window end (R132). -/
def State.shotOf (s : State) (p : ProbeNo) (g : ShotGrant) (gates : List GateResult) : Shot :=
  { grant := g, coupling := s.coup.probes[p].state, alarmed := alarmedOf gates, saturated := saturatedOf gates,
    gates := gates }

/-- The completion of a shot whose channel has evaluated its window (R109). -/
def State.completeShot (s : State) (b : Binding) (e : Evaluator) : State :=
  match s.hub.pool.slot b.slot with
  | none => s
  | some x =>
    match x.content with
    | .blank => s
    | .unnumbered _ => s
    | .record _ _ => s
    | .shot g report =>
      let gates := e.results
      let t := s.couple b.probe (couplingHit gates) g.stepNo
      let changed := decide (s.coup.probes[b.probe].state ≠ t.coup.probes[b.probe].state)
      if reportDecision report g gates changed x.page.isSome then
        t.withHub
          (t.hub.report b.slot x (e.excerpt.map (fun a => a.samples)) (t.mkRec (.shot (t.shotOf b.probe g gates))))
      else t.withHub (t.hub.discardShot b.slot)

end Sys2Proof.Machine
end

