-- ==== Sys2Proof/Machine/Sequencer.lean ====
section
/-! DEFINITION. The rail sequencers (chapter 4): forming groups, the chain walk, the end of a cycle, steps arriving,
omissions and the open skip run. -/

namespace Sys2Proof.Machine

/-! ## Groups -/

/-- The group at a walk position, and the walk position after it (R11, R67): a next block whose join is set is the
second block of the group. -/
def formGroup (b : Bank) (i : BlockIx) : List BlockIx × Link :=
  match (b.block i).next with
  | some j => if (b.block j).join then ([i, j], (b.block j).next) else ([i], some j)
  | none => ([i], none)

/-- Whether a block is due at a step: the step falls on its phase and the hold set of its probe is empty (R10,
R68). -/
def isDue (b : Bank) (holds : Vector PortSet 24) (n : StepNo) (i : BlockIx) : Bool :=
  decide (n.toNat % (b.block i).decimation = (b.block i).phase) && decide (holds[(b.block i).probe] = 0)

/-- The next group with a block due from a walk position on, and the walk position after it; no blocks at the end of
the chain (R67). A chain has at most 64 blocks, and the walk looks at no more groups than `fuel` (log 15). -/
def findGroup (b : Bank) (holds : Vector PortSet 24) (n : StepNo) : Nat → Link → List BlockIx × Link
  | _, none => ([], none)
  | 0, some _ => ([], none)
  | fuel + 1, some i =>
    match (formGroup b i).1.filter (isDue b holds n) with
    | [] => findGroup b holds n fuel (formGroup b i).2
    | j :: rest => (j :: rest, (formGroup b i).2)

/-- The next group of a step on the active bank with the hold table as it stands. -/
def State.nextGroup (s : State) (st : Step) (l : Link) : List BlockIx × Link :=
  findGroup s.bank s.run.holds st.no 64 l

/-! ## The walk -/

/-- A rail enters REQUESTING with a group: its request for the group's channels is placed (R67, R69). -/
def State.enterRequesting (s : State) (r : Rail) (st : Step) (g : List BlockIx × Link) : State :=
  let t := s.setSeq r { s.seq r with state := .requesting, current := some st, group := g.1, walk := g.2 }
  { t with arb := t.arb.setReq r (some g.1.length) }

/-- A rail enters WAITING: its cycle has ended and no step is pending (R75). -/
def State.enterWaiting (s : State) (r : Rail) : State :=
  s.setSeq r { s.seq r with state := .waiting, current := none, group := [], walk := none }

/-- The cycle of a rail has reached the end of its chain: the pending step begins a new cycle upon the same event, or
the rail enters WAITING (R75). -/
def State.chainEnd (s : State) (r : Rail) : State :=
  match (s.seq r).waiting with
  | none => s.enterWaiting r
  | some st =>
    let t := s.setSeq r { s.seq r with waiting := none }
    match s.nextGroup st (s.bank.head r) with
    | ([], _) => t.enterWaiting r
    | (j :: rest, w) => t.enterRequesting r st (j :: rest, w)

/-- The walk of a rail goes on from its walk position until it enters REQUESTING or the cycle ends (R67). -/
def State.walkOn (s : State) (r : Rail) : State :=
  match (s.seq r).current with
  | none => s
  | some st =>
    match s.nextGroup st (s.seq r).walk with
    | ([], _) => s.chainEnd r
    | (j :: rest, w) => s.enterRequesting r st (j :: rest, w)

/-- A step begins a cycle: it becomes the current step and the walk starts at the chain head of the active bank
(R66). -/
def State.beginCycle (s : State) (r : Rail) (st : Step) : State :=
  (s.setSeq r { s.seq r with current := some st, walk := s.bank.head r }).walkOn r

/-! ## Omissions and the open skip run -/

/-- The open skip run of a rail is closed and its SKIP record handed to the pool (R80). -/
def State.closeSkip (s : State) (r : Rail) : State :=
  match (s.seq r).skip with
  | none => s
  | some run => (s.setSeq r { s.seq r with skip := none }).handRecord (.skip r run)

/-- The coverage of a run that an omission joins, if its cause is the run's (R78, R79). -/
def Coverage.join : Coverage → Coverage → Option Coverage
  | .wholeSteps, .wholeSteps => some .wholeSteps
  | .probeSet x, .probeSet y => some (.probeSet (x ||| y))
  | .wholeSteps, .probeSet _ => none
  | .probeSet _, .wholeSteps => none

/-- The skip run that an omission of step `k` gives when it joins the run: the cause is the run's, and `k` is its last
step or one more (R78, R79). -/
def SkipRun.join (run : SkipRun) (k : StepNo) (cover : Coverage) : Option SkipRun :=
  if k = run.last ∨ k.toNat = run.last.toNat + 1 then
    (run.cover.join cover).map (fun c => { run with last := k, cover := c })
  else none

/-- An omission of step `k`: it joins the open skip run, or closes it and opens a new one, or opens one (R78, R79). -/
def State.omission (s : State) (r : Rail) (k : StepNo) (cover : Coverage) : State :=
  match (s.seq r).skip.bind (fun run => run.join k cover) with
  | some run => s.setSeq r { s.seq r with skip := some run }
  | none =>
    let t := s.closeSkip r
    t.setSeq r { t.seq r with skip := some { first := k, last := k, cover := cover } }

/-! ## Steps arriving -/

/-- A step arrives at the sequencer of a rail (R65). -/
def State.stepArrives (s : State) (r : Rail) (st : Step) : State :=
  match (s.seq r).state with
  | .off => s
  | .waiting => s.beginCycle r st
  | .requesting =>
    match (s.seq r).waiting with
    | none => s.setSeq r { s.seq r with waiting := some st }
    | some _ => s.omission r st.no .wholeSteps
  | .listening =>
    match (s.seq r).waiting with
    | none => s.setSeq r { s.seq r with waiting := some st }
    | some _ => s.omission r st.no .wholeSteps

/-- The probes of a group as a set within the rail (R72). -/
def groupProbes (b : Bank) (g : List BlockIx) : RailProbes :=
  g.foldl (fun acc i => acc ||| BitVec.twoPow 12 (withinRail (b.block i).probe)) 0

/-- Whether a rail is OFF, or WAITING with no pending step (R37). -/
def State.railIdle (s : State) (r : Rail) : Bool :=
  decide ((s.seq r).state = .off) || (decide ((s.seq r).state = .waiting) && (s.seq r).waiting.isNone)

end Sys2Proof.Machine
end

