-- ==== Sys2Proof/Machine/Arbiter.lean ====
section
/-! DEFINITION. The grant of a group (R71, R72, R88) and the arbitration pass (R92 to R95). -/

namespace Sys2Proof.Machine

/-! ## The grant -/

/-- A number of FREE slots, lowest first, each taken ASSEMBLING with nothing written yet (R122). -/
def Pool.allocate (p : Pool) : Nat → Pool × List Nat
  | 0 => (p, [])
  | k + 1 =>
    match p.firstFreeSlot with
    | some n => (((p.putSlot n (Slot.assembling .blank)).allocate k).1,
        n :: ((p.putSlot n (Slot.assembling .blank)).allocate k).2)
    | none => (p, [])

/-- A snapshot entry at the grant of a shot of a probe: WAITING for that probe becomes CLAIMED, bound to the shot
(R147). -/
def SnapEntry.claim (e : SnapEntry) (p : ProbeNo) (n : Nat) : SnapEntry :=
  match e with
  | .none => .none
  | .waiting q => if q = p then .claimed q n else .waiting q
  | .claimed q m => .claimed q m

/-- Claims the snapshot entry of one port for a shot. -/
def Hub.claimAt (p : ProbeNo) (n : Nat) (h : Hub) (q : Port) : Hub :=
  h.setDist q { h.dist q with snap := (h.dist q).snap.claim p n }

/-- Whether a port's snapshot entry waits for a probe (R147). -/
def Hub.snapshotWaits (h : Hub) (p : ProbeNo) : Bool :=
  allPorts.any (fun q => decide ((h.dist q).snap = .waiting p))

/-- What is decided of a shot at its grant: the block and probe it fires, its slot and channel, its excerpt length if an
excerpt is due or forced, whether it claims a snapshot, and the page it finds (R71, R108). -/
structure ShotPlan where
  block : BlockIx
  chan : Chan
  slot : Nat
  wanted : Option Nat
  snapshot : Bool
  page : Option Nat
  deriving DecidableEq, Repr

/-- Whether a periodic excerpt is due for a block whose fired count before the shot is `count` (R12). -/
def excerptDue (x : Block) (count : BitVec 32) : Bool :=
  decide (x.interval ≠ 0) && decide (count.toNat % x.interval = 0)

/-- The excerpt length a shot wants: its block's, or 512 when a snapshot forces it on a block of interval 0 (R108). -/
def wantedExcerpt (x : Block) (count : BitVec 32) (snapshot : Bool) : Option Nat :=
  if snapshot then some (if x.interval = 0 then 512 else x.excerptLen.count)
  else if excerptDue x count then some x.excerptLen.count
  else none

/-- The decisions of steps 2 to 4 of R71 for one shot. -/
def State.planShot (s : State) (r : Rail) (i : BlockIx) (c : Chan) (n : Nat) : ShotPlan :=
  let x := s.bank.block i
  let snap := s.hub.snapshotWaits x.probe
  let wanted := wantedExcerpt x (s.seq r).fired[i] snap
  { block := i, chan := c, slot := n, wanted := wanted, snapshot := snap,
    page := if wanted.isSome then s.hub.pool.firstFreePage else none }

/-- The fields that the sequencer supplies to a slot at the grant (R73). -/
def State.grantFields (s : State) (r : Rail) (st : Step) (joined : Bool) (d : ShotPlan) : ShotGrant :=
  { stepNo := st.no
    stepPos := st.pos
    firePos := s.odo.position
    rail := r
    probe := (s.bank.block d.block).probe
    block := d.block
    joined := joined
    snapshot := d.snapshot
    dropped := d.wanted.isSome && d.page.isNone }

/-- The channel of a shot after the grant: bound, its settings driven, triggered once and LISTENING (R88). -/
def Channel.trigger (x : Channel) (b : Bank) (r : Rail) (d : ShotPlan) : Channel :=
  let p := (b.block d.block).probe
  let e := b.probe p
  { phase := .listening
    binding :=
      some { rail := r, block := d.block, probe := p, slot := d.slot, window := some (5 * e.fields.window),
             settle := none }
    eval := Evaluator.start e (if d.page.isSome then d.wanted else none) (5 * e.fields.window)
    fe := some { probe := p, level := e.fields.level, pulseWidth := e.fields.pulseWidth, gain := e.fields.gain }
    triggers := x.triggers + 1 }

/-- One shot of a granted group: its block's fired count rises, the snapshot entries are claimed, its page is taken, its
slot is written and its channel fires (R71, steps 2 to 6; R76). -/
def State.fireShot (s : State) (r : Rail) (st : Step) (joined : Bool) (d : ShotPlan) : State :=
  let x := s.bank.block d.block
  let hub := allPorts.foldl (Hub.claimAt x.probe d.slot) s.hub
  let slot : Slot :=
    { phase := .assembling
      refs := 0
      content := .shot (s.grantFields r st joined d) x.report
      page := d.page.map (fun n => { no := n, samples := [] }) }
  let t := s.withHub (hub.withPool (hub.pool.putSlot d.slot slot))
  let u := t.setSeq r { t.seq r with fired := (t.seq r).fired.set d.block ((t.seq r).fired[d.block] + 1) }
  u.setChan d.chan (u.chans[d.chan].trigger s.bank r d)

/-- The shots of a granted group, in block order, each with the next granted channel and slot. -/
def State.fireShots (s : State) (r : Rail) (st : Step) (joined : Bool) :
    List BlockIx → List Chan → List Nat → State
  | i :: is, c :: cs, n :: ns =>
    State.fireShots (s.fireShot r st joined (s.planShot r i c n)) r st joined is cs ns
  | _, _, _ => s

/-- The grant of a group whose slots are allocated (R71): the open skip run is closed first, then the shots are fired,
and the rail is LISTENING with its windows outstanding. -/
def State.grant (s : State) (r : Rail) (st : Step) : State :=
  let g := (s.seq r).group
  let cs := s.freeChans.take g.length
  let al := s.hub.pool.allocate g.length
  let t := (s.withHub (s.hub.withPool al.1)).closeSkip r
  let u := t.fireShots r st (decide (g.length = 2)) g cs al.2
  let v := u.setSeq r { u.seq r with state := .listening, windows := g.length }
  { v with arb := v.arb.setReq r none }

/-- The group of a grant that the pool refuses is omitted with cause POOL; the request no longer waits (R72, R95). -/
def State.omitGroup (s : State) (r : Rail) (st : Step) : State :=
  let t := s.omission r st.no (.probeSet (groupProbes s.bank (s.seq r).group))
  let u := t.setSeq r { t.seq r with group := [] }
  { u with arb := u.arb.setReq r none }

/-- What becomes of a rail considered in a pass. -/
inductive Verdict where
  | noRequest
  | waits
  | granted
  | refused
  deriving DecidableEq, Repr

/-- A pass considers a rail (R93): its request is granted the lowest free channels if enough are free, and the pool
then allocates its slots or refuses them (R122). -/
def State.consider (s : State) (r : Rail) : State × Verdict :=
  match s.arb.req r, (s.seq r).current with
  | some k, some st =>
    if k ≤ s.freeChans.length then
      if k + Config.slotReserve ≤ s.hub.pool.freeSlots then (s.grant r st, .granted)
      else (s.omitGroup r st, .refused)
    else (s, .waits)
  | _, _ => (s, .noRequest)

/-- The rail considered first in a pass (R94). -/
def State.higherRail (s : State) : Rail :=
  match s.bank.settings.priority with
  | .fixed => .a
  | .rotating => s.arb.pointer

/-- Refused rails go on with their walks in the order of their refusals, and the requests they place are considered in
that order within the same pass (R95). Every refusal omits a group, so the pass ends before `fuel` does (log 15). -/
def State.afterRefusals : Nat → List Rail → State → State
  | 0, _, s => s
  | _, [], s => s
  | fuel + 1, r :: rest, s =>
    let c := (s.walkOn r).consider r
    State.afterRefusals fuel (if c.2 = .refused then rest ++ [r] else rest) c.1

/-- An arbitration pass (R92 to R95). -/
def State.pass (s : State) : State :=
  let hi := s.higherRail
  let c := s.consider hi
  match c.2 with
  | .waits => c.1
  | .noRequest =>
    let d := c.1.consider hi.other
    if d.2 = .refused then State.afterRefusals 512 [hi.other] d.1 else d.1
  | .granted =>
    let d := c.1.consider hi.other
    if d.2 = .refused then State.afterRefusals 512 [hi.other] d.1 else d.1
  | .refused =>
    let d := c.1.consider hi.other
    State.afterRefusals 512 (if d.2 = .refused then [hi, hi.other] else [hi]) d.1

end Sys2Proof.Machine
end

