-- ==== Sys2Proof/Machine/Steps.lean ====
section
/-! DEFINITION. The Step Generator (3.7, 3.8), the swap (R37, R38, R60), the end of a run by completion (R155, R156),
and what a count of the encoder does (R46, R47, R52, R57). -/

namespace Sys2Proof.Machine

/-! ## The end of a run by completion -/

/-- Both sequencers and the Step Generator enter OFF (R56, R156). -/
def State.turnOff (s : State) : State :=
  { s with
    seqA := { s.seqA with state := .off }
    seqB := { s.seqB with state := .off }
    gen := { s.gen with state := .off, timer := none } }

/-- The run state becomes IDLE, and both spray lines are deasserted (R118, R156, R157). -/
def State.enterIdle (s : State) : State := State.refreshSpray { s with run := { s.run with state := .idle } }

/-- Whether the run's completion is due (R155). -/
def State.completionDue (s : State) : Bool :=
  decide (s.run.state = .finishing) &&
    (decide (s.seqA.state = .waiting) && s.seqA.waiting.isNone) &&
    (decide (s.seqB.state = .waiting) && s.seqB.waiting.isNone)

/-- The run ends COMPLETED (R156). -/
def State.complete (s : State) : State :=
  (((s.closeSkip .a).closeSkip .b).turnOff.handRecord (.run .completed s.run.label s.gen.stepNo)).enterIdle

/-- The run ends COMPLETED if it is due. -/
def State.completeIfDue (s : State) : State := if s.completionDue then s.complete else s

/-! ## Step issue -/

/-- Whether the step just issued is the run's last (R62, R155). -/
def State.limitReached (s : State) : Bool :=
  if s.run.limit = 0 then decide (s.gen.stepNo = 0xFFFFFFFF#32)
  else decide (s.gen.stepNo.toNat = s.run.limit.toNat)

/-- The Step Generator enters HALTED and Run Control FINISHING at the run's last step (R62, R155). -/
def State.haltAtLimit (s : State) : State :=
  if s.limitReached then
    { s with gen := { s.gen with state := .halted, timer := none }, run := { s.run with state := .finishing } }
  else s

/-- A step is numbered, takes the position as it stands and reaches both sequencers; at the limit the generator halts;
the requests of the cycles it begins are taken into one pass (R58, R61, R62, R92; log 7). The rules say only that the
step reaches both sequencers; that rail A handles it before rail B is the model's choice (log 29). -/
def State.issue (s : State) : State :=
  let no := s.gen.stepNo + 1
  let st : Step := { no := no, pos := s.odo.position }
  let began := decide (s.seqA.state = .waiting) || decide (s.seqB.state = .waiting)
  let t := { s with gen := { s.gen with stepNo := no } }
  let u := ((t.stepArrives .a st).stepArrives .b st).haltAtLimit
  if began then u.pass else u

/-- The next boundary is reached: it becomes the last boundary, and the next lies one pitch further (R58, step 4). -/
def State.advanceBoundary (s : State) : State :=
  { s with
    gen :=
      { s.gen with
        lastBoundary := s.gen.nextBoundary
        nextBoundary := s.gen.nextBoundary + s.bank.settings.pitch } }

/-! ## The swap -/

/-- The condition of the swap (R37). -/
def State.swapDue (s : State) : Bool := decide (s.plan.commit = .pending) && s.railIdle .a && s.railIdle .b

/-- The fired counts of both sequencers are cleared (R38, R82). -/
def State.clearFired (s : State) : State :=
  { s with
    seqA := { s.seqA with fired := Vector.replicate 64 0 }
    seqB := { s.seqB with fired := Vector.replicate 64 0 } }

/-- The Plan Store at the swap: the banks change roles, the epoch rises, the signature is the pending one, and the
shadow copy begins (R38, R40). -/
def PlanStore.swapped (x : PlanStore) (sig : BitVec 32) : PlanStore :=
  { x with
    activeIx := x.activeIx + 1
    epoch := x.epoch + 1
    signature := sig
    commit := .copying
    pendingSig := none
    committer := none }

/-- At a swap during a run the next boundary is the last one plus the new pitch (R60). -/
def State.newPitch (s : State) : State :=
  if s.gen.state = .off then s
  else { s with gen := { s.gen with nextBoundary := s.gen.lastBoundary + s.bank.settings.pitch } }

/-- The swap (R38, R39, R60), without the steps it may issue. -/
def State.swapBanks (s : State) (sig : BitVec 32) (p : Port) : State :=
  let t := State.clearFired { s with plan := s.plan.swapped sig }
  (t.handRecord (.plan t.plan.epoch sig t.plan.activeIx p)).newPitch

/-- Upon a swap every step whose boundary F has reached is issued, in order; at most `fuel` of them are due (R60). This
holds also while d is below F, where R59 says that no step is issued; that R60 is followed there is the model's choice
(log 33). -/
def State.issueReached : Nat → State → State
  | 0, s => s
  | fuel + 1, s =>
    if s.gen.state = .issuing ∧ s.gen.source ≠ .timed ∧ (s.gen.nextBoundary : Int) ≤ s.gen.frontier.toInt then
      State.issueReached fuel s.advanceBoundary.issue.completeIfDue
    else s

/-- The number of boundaries F has reached beyond the last one. -/
def State.reachedCount (s : State) : Nat :=
  (s.gen.frontier.toInt - (s.gen.lastBoundary : Int)).toNat / s.bank.settings.pitch

/-- The swap with the steps it issues. -/
def State.swap (s : State) : State :=
  match s.plan.pendingSig, s.plan.committer with
  | some sig, some p => State.issueReached (s.swapBanks sig p).reachedCount (s.swapBanks sig p)
  | _, _ => s

/-- The swap takes place if its condition holds. -/
def State.swapIfDue (s : State) : State := if s.swapDue then s.swap else s

/-- What follows upon rails that have ended their cycles: the end of the run and the swap, each when its condition
holds; when both do, either may come first (R37, R75, R83; log 2). -/
def State.afterCycles (s : State) : State :=
  if s.completionDue && s.swapDue then
    let t := { s with freeCount := s.freeCount + 1 }
    if Config.swapBeforeCompletion s.freeCount then t.swap.completeIfDue else t.complete.swapIfDue
  else s.completeIfDue.swapIfDue

/-! ## Ticks and counts -/

/-- The displacement after a tick, `up` when it increases d (R57). Beyond the signed 48-bit range it is a free value
(R55; log 3). -/
def State.moveDisp (s : State) (up : Bool) : State :=
  let x := s.gen.disp.toInt + (if up then 1 else -1)
  if -(2 ^ 47) ≤ x ∧ x < 2 ^ 47 then { s with gen := { s.gen with disp := BitVec.ofInt 48 x } }
  else
    { s with
      gen := { s.gen with disp := Config.displacementBeyondRange s.freeCount }
      freeCount := s.freeCount + 1 }

/-- Whether a tick increases d under a source (R57). -/
def StepSource.increases (x : StepSource) (plus : Bool) : Bool :=
  match x with
  | .forward => plus
  | .reverse => !plus
  | .timed => plus

/-- The Step Generator takes a tick (R57 to R59, R62): d follows it, F rises with d, and a frontier that reaches the
next boundary issues a step. -/
def State.genTick (s : State) (plus : Bool) : State :=
  if s.gen.state = .off then s
  else
    let t := s.moveDisp (s.gen.source.increases plus)
    if t.gen.frontier.toInt < t.gen.disp.toInt then
      let u := { t with gen := { t.gen with frontier := t.gen.disp } }
      if u.gen.state = .issuing ∧ u.gen.source ≠ .timed ∧ u.gen.frontier.toInt = (u.gen.nextBoundary : Int) then
        u.advanceBoundary.issue.afterCycles
      else u
    else t

/-- A tick is applied to the position (R47), to the speed tally (R48) and to the Step Generator (R57). -/
def State.tick (s : State) (plus : Bool) : State :=
  State.genTick
    { s with
      odo :=
        { s.odo with
          position := if plus then s.odo.position + 1 else s.odo.position - 1
          tally := if plus then s.odo.tally + 1 else s.odo.tally - 1 } }
    plus

/-- A number of ticks of one sign, one at a time. -/
def State.ticks (plus : Bool) : Nat → State → State
  | 0, s => s
  | n + 1, s => State.ticks plus n (s.tick plus)

/-- The number of ticks a count gives, with the remainder after it: N is added to r and D taken off while r is D or
more, or N is taken off and D added while r is below 0 (R46). -/
def Odometer.scale (o : Odometer) (plus : Bool) : Nat × Nat :=
  if plus then ((o.rem + o.num) / o.den, (o.rem + o.num) % o.den)
  else
    let k := (o.num - o.rem + o.den - 1) / o.den
    (k, o.rem + k * o.den - o.num)

/-- A lockout counter counts a valid count, up to 65,535 (R52). -/
def MarkerUnit.count (m : MarkerUnit) : MarkerUnit :=
  { m with counter := if m.counter < 65535 then m.counter + 1 else m.counter }

/-- A valid count: the scaler's ticks are applied and the lockout counters count (R46, R52, R54). -/
def State.count (s : State) (plus : Bool) : State :=
  let t := State.ticks plus (s.odo.scale plus).1 { s with odo := { s.odo with rem := (s.odo.scale plus).2 } }
  { t with odo := { t.odo with m0 := t.odo.m0.count, m1 := t.odo.m1.count } }

end Sys2Proof.Machine
end

