-- ==== Sys2Proof/Machine/ChannelEvents.lean ====
section
/-! DEFINITION. Events of the capture channels: window end and settle end. -/

namespace Sys2Proof.Machine

/-- Whether another channel of a rail's group has not yet reached its settle end (R90). -/
def State.partnerBusy (s : State) (c : Chan) (r : Rail) : Bool :=
  allChans.any (fun d =>
    decide (d ≠ c) && s.chans[d].ofRail r &&
      (decide (s.chans[d].phase = .listening) || decide (s.chans[d].phase = .settling)))

/-- The channels of a rail return to FREE. -/
def State.releaseRail (s : State) (r : Rail) : State :=
  { s with chans := s.chans.map (fun x => if x.ofRail r then x.release else x) }

/-- Under ROTATING priority a normal completion sets the pointer to the other rail (R94). -/
def State.movePointer (s : State) (r : Rail) : State :=
  match s.bank.settings.priority with
  | .fixed => s
  | .rotating => { s with arb := { s.arb with pointer := r.other } }

/-- The group of a rail is no longer in the air (R74). -/
def State.clearGroup (s : State) (r : Rail) : State := s.setSeq r { s.seq r with group := [], windows := 0 }

/-- The settle end of a rail's group: the channels are released as a normal completion, the walk goes on, and the
release and the request it places form one pass (R74, R90, R92). -/
def State.groupSettleEnd (s : State) (r : Rail) : State :=
  ((((s.releaseRail r).movePointer r).clearGroup r).walkOn r).pass.afterCycles

/-- The settle end of a channel (R90). -/
def State.settleEnd (s : State) (c : Chan) : State :=
  match s.chans[c].phase, s.chans[c].binding with
  | .settling, some b =>
    if s.partnerBusy c b.rail then
      s.setChan c { s.chans[c] with phase := .held, binding := some { b with settle := none } }
    else s.groupSettleEnd b.rail
  | _, _ => s

/-- CHANNEL_SETTLE_END (R90, R74). -/
def execChannelSettleEnd (ch : Chan) (s : State) : Host.Outcome State Fault Refusal :=
  whileReleased (fun t => (t.settleEnd ch).endPool) s

/-- The window end of a channel: it has taken its samples and enters SETTLING; the shot is completed; the sequencer
counts one window less; with a settle time of 0 the settle end falls upon the same event (R73, R89, R109). -/
def State.windowEnd (s : State) (c : Chan) (first : Sample) (rest : List Sample) : State :=
  match s.chans[c].phase, s.chans[c].binding with
  | .listening, some b =>
    let e := s.chans[c].eval.run 0 (streamSamples (b.window.getD 0) first rest)
    let settle := (s.bank.probe b.probe).fields.settle
    let t :=
      s.setChan c
        { s.chans[c] with
          phase := .settling
          binding := some { b with window := none, settle := some settle }
          eval := e }
    let u := t.completeShot b e
    let v := u.setSeq b.rail { u.seq b.rail with windows := (u.seq b.rail).windows - 1 }
    if settle = 0 then v.settleEnd c else v
  | _, _ => s

/-- CHANNEL_WINDOW_END (R89). -/
def execChannelWindowEnd (ch : Chan) (first : Sample) (rest : List Sample) (s : State) :
    Host.Outcome State Fault Refusal :=
  whileReleased (fun t => (t.windowEnd ch first rest).endPool) s

end Sys2Proof.Machine
end

