-- ==== Sys2Proof/Machine/CommitCheck.lean ====
section
/-! DEFINITION. The commit check (1.8): its five phases in order, the fault it reports, and the figures of a pass. -/

namespace Sys2Proof.Machine

/-- The probe's coupling gate: the COUPLING gate in the lowest-numbered occupied place, with its place (R18). -/
def couplingGateOf (e : ProbeEntry) : Option (Place × Gate) :=
  ([0, 1, 2, 3] : List Place).findSome? fun i =>
    match e.gates[i] with
    | some g => if g.kind = .coupling then some (i, g) else none
    | none => none

/-- Whether a place before `i` holds a COUPLING gate (R18, a). -/
def couplingBefore (e : ProbeEntry) (i : Place) : Bool :=
  ([0, 1, 2, 3] : List Place).any fun j =>
    decide (j < i) &&
      match e.gates[j] with
      | some g => decide (g.kind = .coupling)
      | none => false

/-- The fault kind of the gate in a place, by conditions a to e of R18 in order. -/
def gateFault (e : ProbeEntry) (i : Place) (g : Gate) : Option FaultKind :=
  if g.kind = .coupling ∧ couplingBefore e i then some .couplingDuplicate
  else if g.kind = .coupling ∧ g.origin ≠ .pulse then some .couplingOrigin
  else
    match g.origin with
    | .pulse => if g.start + g.width ≤ e.fields.window then none else some .gateBeyondWindow
    | .interface =>
      match couplingGateOf e with
      | none => some .interfaceWithoutCoupling
      | some (_, c) =>
        if c.start + c.width + g.start + g.width ≤ e.fields.window then none else some .gateBeyondWindow

/-- The first fault of a probe entry, in place order (R17, R18). -/
def probeFault (p : ProbeNo) (e : ProbeEntry) : Option CommitFault :=
  ([0, 1, 2, 3] : List Place).findSome? fun i =>
    match e.gates[i] with
    | some g =>
      match gateFault e i g with
      | some k => some { kind := k, rail := none, block := none, probe := some p, place := some i }
      | none => none
    | none => none

/-- Phase 2 of R17: probes in number order. -/
def probesFault (b : Bank) : Option CommitFault := (List.finRange 24).findSome? fun p => probeFault p (b.probe p)

/-- Phase 3 of R17: blocks in use, in index order, have a phase below their decimation (R20). -/
def blocksFault (b : Bank) : Option CommitFault :=
  (List.finRange 64).findSome? fun i =>
    if (b.block i).inUse ∧ (b.block i).decimation ≤ (b.block i).phase then
      some { kind := .phaseRange, rail := none, block := some i, probe := some (b.block i).probe, place := none }
    else none

/-- The fault kind of the block reached next in a walk, by conditions a to h of R19 in order. `before` holds the blocks
reached before it in this walk, last first, and `taken` those of the other rail's chain. -/
def blockFault (b : Bank) (r : Rail) (taken before : List BlockIx) (i : BlockIx) : Option FaultKind :=
  if (b.block i).inUse = false then some .blockNotInUse
  else if i ∈ before then some .chainLoop
  else if Config.chainLength ≤ before.length then some .chainTooLong
  else if i ∈ taken then some .chainShared
  else if railOf (b.block i).probe ≠ r then some .wrongRail
  else if (b.block i).join then
    match before with
    | [] => some .joinAtHead
    | j :: _ =>
      if (b.block j).join then some .joinChain
      else if (b.block j).probe = (b.block i).probe then some .joinSameProbe
      else none
  else none

/-- The entry a fault of the chain walk reports (R19): WRONG_RAIL and JOIN_SAME_PROBE also name the probe. -/
def chainFault (b : Bank) (r : Rail) (i : BlockIx) (k : FaultKind) : CommitFault :=
  { kind := k
    rail := some r
    block := some i
    probe := if k = .wrongRail ∨ k = .joinSameProbe then some (b.block i).probe else none
    place := none }

/-- The walk of a chain phase (R19) with `fuel` blocks still to reach: the fault, or the chain, last block first. A walk
reaches at most 17 blocks, since its 17th is a fault. -/
def walkChain (b : Bank) (r : Rail) (taken : List BlockIx) :
    Nat → List BlockIx → Link → Except CommitFault (List BlockIx)
  | _, before, none => .ok before
  | 0, before, some _ => .ok before
  | fuel + 1, before, some i =>
    match blockFault b r taken before i with
    | some k => .error (chainFault b r i k)
    | none => walkChain b r taken fuel (i :: before) (b.block i).next

/-- The chain phase of a rail (R17, R19). -/
def chainPhase (b : Bank) (r : Rail) (taken : List BlockIx) : Except CommitFault (List BlockIx) :=
  walkChain b r taken (Config.chainLength + 1) [] (b.head r)

/-- The time of a probe from the grant to its settle end: window plus settle (R21). -/
def probeTime (b : Bank) (i : BlockIx) : Nat :=
  (b.probe (b.block i).probe).fields.window + (b.probe (b.block i).probe).fields.settle

/-- The sum of the group terms over a chain in chain order (R21): a block joined to the one before it shares its
group, whose term is the larger of the two times. -/
def cycleTime (b : Bank) : List BlockIx → Nat
  | [] => 0
  | [i] => probeTime b i
  | i :: j :: rest =>
    if (b.block j).join then max (probeTime b i) (probeTime b j) + cycleTime b rest
    else probeTime b i + cycleTime b (j :: rest)

/-- Phases 2 to 5 of R17, with the figures of R21 and R22 on a pass. -/
def checkBank (b : Bank) : Except CommitFault Figures :=
  match probesFault b with
  | some f => .error f
  | none =>
    match blocksFault b with
    | some f => .error f
    | none =>
      match chainPhase b .a [] with
      | .error f => .error f
      | .ok chainA =>
        match chainPhase b .b chainA with
        | .error f => .error f
        | .ok chainB =>
          .ok
            { cycleA := cycleTime b chainA.reverse
              cycleB := cycleTime b chainB.reverse
              signature := signatureOf b }

/-- The commit check (R16, R17) on a shadow bank: phase 1 compares its step source with the active bank's while a run
is active. -/
def commitCheck (runActive : Bool) (active shadow : Bank) : Except CommitFault Figures :=
  if runActive ∧ shadow.settings.source ≠ active.settings.source then
    .error { kind := .runActive, rail := none, block := none, probe := none, place := none }
  else checkBank shadow

end Sys2Proof.Machine
end

