-- ==== Sys2Proof/Machine/Operands.lean ====
section
/-! DEFINITION. The payload fields of the requests: the range of each field in payload order (1.7, 11.2, R175), and the
values that fields in range stand for. -/

namespace Sys2Proof.Machine

/-- The position, counted from `i`, of the first check not passed. -/
def firstBadFrom (i : Nat) : List Bool → Option Nat
  | [] => none
  | ok :: rest => if ok then firstBadFrom (i + 1) rest else some i

/-- The position in payload order, counted from 1, of the first field out of range (R175). Which field is named when
several are out of range is stated by R30, R49, R139 and R172 for their requests; for READ PLAN ENTRY and SET MARKER
that it is the first is the model's choice (log 31). -/
def firstBad (checks : List Bool) : Option Nat := firstBadFrom 1 checks

/-- Whether a number lies in a range, bounds included. -/
def inRange (lo hi x : Nat) : Bool := decide (lo ≤ x ∧ x ≤ hi)

/-- Whether a byte is a flag. -/
def isFlag (b : Byte) : Bool := inRange 0 1 b.toNat

/-- The value of a flag byte in range. -/
def flagOf (b : Byte) : Bool := decide (b.toNat = 1)

/-- The field checks of CONFIGURE PORT (R172). -/
def configureChecks (hold threshold : BitVec 16) : List Bool :=
  [inRange 0 2000 hold.toNat, inRange 1 256 threshold.toNat]

/-- The field checks of SUBSCRIBE (R139, R175). -/
def subscribeChecks (entry matchVal mask enabled : Byte) : List Bool :=
  [inRange 0 7 entry.toNat, inRange 0 63 matchVal.toNat, inRange 0 63 mask.toNat, isFlag enabled]

/-- The field checks of READ PLAN ENTRY: the index range follows from the item (R175); the first field that fails is
named (log 31). -/
def readChecks (role item index : Byte) : List Bool :=
  [inRange 0 1 role.toNat, inRange 0 2 item.toNat,
    if item.toNat = 0 then inRange 0 0 index.toNat
    else if item.toNat = 1 then inRange 0 23 index.toNat
    else inRange 1 64 index.toNat]

/-- The field checks of WRITE STEP SETTINGS (R31). -/
def settingsChecks (source : Byte) (pitch : BitVec 16) (period : BitVec 32) (priority headA headB : Byte) :
    List Bool :=
  [inRange 0 2 source.toNat, inRange 4 400 pitch.toNat, inRange 100 100000 period.toNat, inRange 0 1 priority.toNat,
    inRange 0 64 headA.toNat, inRange 0 64 headB.toNat]

/-- The step settings the payload carries (R31). -/
def settingsOf (source : Byte) (pitch : BitVec 16) (period : BitVec 32) (priority headA headB : Byte) :
    StepSettings :=
  { source := StepSource.ofCode source
    pitch := pitch.toNat
    period := period.toNat
    priority := if priority.toNat = 0 then .fixed else .rotating
    headA := linkOf headA
    headB := linkOf headB }

/-- The field checks of WRITE PROBE (R32). -/
def probeChecks (probe level : Byte) (pulseWidth : BitVec 16) (gain : Byte) (window settle : BitVec 16)
    (lossRun recoveryRun : Byte) : List Bool :=
  [inRange 0 23 probe.toNat, inRange 1 8 level.toNat, inRange 50 500 pulseWidth.toNat, inRange 0 160 gain.toNat,
    inRange 200 4000 window.toNat, inRange 0 500 settle.toNat, inRange 1 15 lossRun.toNat,
    inRange 1 15 recoveryRun.toNat]

/-- The probe fields the payload carries (R32). -/
def probeFieldsOf (level : Byte) (pulseWidth : BitVec 16) (gain : Byte) (window settle : BitVec 16)
    (lossRun recoveryRun : Byte) : ProbeFields :=
  { level := level.toNat, pulseWidth := pulseWidth.toNat, gain := gain.toNat, window := window.toNat,
    settle := settle.toNat, lossRun := lossRun.toNat, recoveryRun := recoveryRun.toNat }

/-- The field checks of WRITE GATE; with occupied 0 the five gate fields are ignored (R33, R175). -/
def gateChecks (probe place occupied kind origin : Byte) (start width threshold : BitVec 16) : List Bool :=
  [inRange 0 23 probe.toNat, inRange 0 3 place.toNat, isFlag occupied] ++
    if occupied.toNat = 0 then []
    else
      [inRange 0 2 kind.toNat, inRange 0 1 origin.toNat, inRange 0 3999 start.toNat, inRange 1 4000 width.toNat,
        inRange 1 1023 threshold.toNat]

/-- What the payload of WRITE GATE puts into the place: empty, or a gate (R33). -/
def gateOf (occupied kind origin : Byte) (start width threshold : BitVec 16) : Option Gate :=
  if occupied.toNat = 0 then none
  else
    some
      { kind := GateKind.ofCode kind
        origin := if origin.toNat = 0 then .pulse else .interface
        start := start.toNat
        width := width.toNat
        threshold := threshold.toNat }

/-- The field checks of WRITE BLOCK (R34). -/
def blockChecks (block inUse probe decimation phase join report interval lengthCode next : Byte) : List Bool :=
  [inRange 1 64 block.toNat, isFlag inUse, inRange 0 23 probe.toNat, inRange 1 16 decimation.toNat,
    inRange 0 15 phase.toNat, isFlag join, inRange 0 1 report.toNat, inRange 0 255 interval.toNat,
    inRange 0 3 lengthCode.toNat, inRange 0 64 next.toNat]

/-- The block the payload carries (R34). -/
def blockOf (inUse probe decimation phase join report interval lengthCode next : Byte) : Block :=
  { inUse := flagOf inUse
    probe := probeOf probe
    decimation := decimation.toNat
    phase := phase.toNat
    join := flagOf join
    report := if report.toNat = 0 then .always else .onEvent
    interval := interval.toNat
    excerptLen := ExcerptLen.ofCode lengthCode
    next := linkOf next }

/-- The block a byte of 1 to 64 names. -/
def blockIxOf (b : Byte) : BlockIx := Fin.ofNat 64 (b.toNat - 1)

/-- The gate place a byte of 0 to 3 names. -/
def placeOf (b : Byte) : Place := Fin.ofNat 4 b.toNat

/-- The field that SET SCALER's range test names, if it fails: N alone out of range, D out of range, or both in range
and N above 8·D (R49). -/
def scalerBad (num den : BitVec 16) : Option Nat :=
  if inRange 1 4096 den.toNat then
    if inRange 1 4096 num.toNat then if num.toNat ≤ 8 * den.toNat then none else some 1 else some 1
  else some 2

/-- The field checks of SET MARKER; every lockout and load value is in range (R51). The first field that fails is named
(log 31). -/
def markerChecks (marker enabled edge action : Byte) : List Bool :=
  [inRange 0 1 marker.toNat, isFlag enabled, inRange 0 1 edge.toNat, true, inRange 0 1 action.toNat]

end Sys2Proof.Machine
end

