-- ==== Sys2Proof/Machine/PlanRequests.lean ====
section
/-! DEFINITION. Plan editing and commit (chapter 2): the edit right, the shadow-bank writes, READ PLAN ENTRY, COMMIT and
ABANDON, and the events of the edit idle timer and of the shadow copy. -/

namespace Sys2Proof.Machine

/-! ## The edit right -/

/-- The edit idle timer is started at 20 s (R23 to R25). -/
def State.restartIdle (s : State) : State :=
  { s with plan := { s.plan with idleTimer := some Config.editIdleSeconds } }

/-- A shadow copy is started: the commit state becomes COPYING (R40). -/
def PlanStore.startCopy (x : PlanStore) : PlanStore := { x with commit := .copying }

/-- The loss of the edit right (R26): in NONE a shadow copy is started; a pending commit or a copy goes on. -/
def PlanStore.loseRight (x : PlanStore) : PlanStore :=
  match x.commit with
  | .none => { x with holder := none, idleTimer := none }.startCopy
  | .pending => { x with holder := none, idleTimer := none }
  | .copying => { x with holder := none, idleTimer := none }

/-- Whether a reply is DONE or PENDING. -/
def Reply.accepted : Reply → Bool
  | .done _ => true
  | .pending _ => true
  | .refused _ => false

/-- A request that needs the edit right: NOT_HOLDER comes before every other test, and DONE or PENDING restarts the edit
idle timer (R24). -/
def State.withRight (s : State) (p : Port) (body : State → State × Reply) : State × Reply :=
  if s.plan.holder = some p then
    (if (body s).2.accepted then (body s).1.restartIdle else (body s).1, (body s).2)
  else (s, .refused .notHolder)

/-- The edit right is claimed (R25). -/
def State.claim (s : State) (p : Port) : State × Reply :=
  match s.plan.holder with
  | none => (State.restartIdle { s with plan := { s.plan with holder := some p } }, .done .nothing)
  | some q => if q = p then (s.restartIdle, .done .nothing) else (s, .refused (.heldBy q))

/-- CLAIM EDIT on a port. -/
def State.doClaimEdit (p : Port) (tag : Byte) (s : State) : State := s.request p tag 0x0A (fun t => t.claim p)

/-- CLAIM_EDIT (R25). -/
def execClaimEdit (p : Port) (tag : Byte) (s : State) : Host.Outcome State Fault Refusal :=
  whileReleased (State.doClaimEdit p tag) s

/-- The edit right is released (R27). -/
def State.releaseRight (s : State) (p : Port) : State × Reply :=
  if s.plan.holder = some p then ({ s with plan := s.plan.loseRight }, .done .nothing)
  else (s, .refused .notHolder)

/-- RELEASE EDIT on a port. -/
def State.doReleaseEdit (p : Port) (tag : Byte) (s : State) : State :=
  s.request p tag 0x10 (fun t => t.releaseRight p)

/-- RELEASE_EDIT (R27). -/
def execReleaseEdit (p : Port) (tag : Byte) (s : State) : Host.Outcome State Fault Refusal :=
  whileReleased (State.doReleaseEdit p tag) s

/-- The edit idle timer expires, and the right is revoked (R29). -/
def State.idleExpiry (s : State) : State :=
  match s.plan.holder, s.plan.idleTimer with
  | some _, some _ => { s with plan := s.plan.loseRight }
  | _, _ => s

/-- EDIT_IDLE_TIMER_EXPIRY (R29). -/
def execEditIdleTimerExpiry (s : State) : Host.Outcome State Fault Refusal := whileReleased State.idleExpiry s

/-! ## The shadow copy -/

/-- The shadow copy completes: the shadow bank equals the active bank, and the commit state returns to NONE (R40). -/
def PlanStore.copyDone (x : PlanStore) : PlanStore :=
  match x.commit with
  | .copying => { x.setShadow x.activeBank with commit := .none }
  | .none => x
  | .pending => x

/-- SHADOW_COPY_COMPLETION (R40). -/
def execShadowCopyCompletion (s : State) : Host.Outcome State Fault Refusal :=
  whileReleased (fun t => { t with plan := t.plan.copyDone }) s

/-! ## Shadow-bank writes -/

/-- A shadow-bank write by the holder: BUSY unless the commit state is NONE, RANGE with the first field out of range, or
the addressed item replaced (R30). -/
def State.writeShadow (s : State) (checks : List Bool) (edit : Bank → Bank) : State × Reply :=
  if s.plan.commit = .none then
    match firstBad checks with
    | some n => (s, .refused (.range n))
    | none => ({ s with plan := s.plan.setShadow (edit s.plan.shadowBank) }, .done .nothing)
  else (s, .refused .busy)

/-- WRITE STEP SETTINGS on a port. -/
def State.doWriteStepSettings (p : Port) (tag source : Byte) (pitch : BitVec 16) (period : BitVec 32)
    (priority headA headB : Byte) (s : State) : State :=
  s.request p tag 0x11 fun t => t.withRight p fun u =>
    u.writeShadow (settingsChecks source pitch period priority headA headB) fun b =>
      { b with settings := settingsOf source pitch period priority headA headB }

/-- WRITE_STEP_SETTINGS (R31). -/
def execWriteStepSettings (p : Port) (tag source : Byte) (pitch : BitVec 16) (period : BitVec 32)
    (priority headA headB : Byte) (s : State) : Host.Outcome State Fault Refusal :=
  whileReleased (State.doWriteStepSettings p tag source pitch period priority headA headB) s

/-- A bank with the seven fields of a probe entry replaced; its gate places keep their content (R32). -/
def Bank.setFields (b : Bank) (i : ProbeNo) (f : ProbeFields) : Bank :=
  { b with probes := b.probes.set i { b.probes[i] with fields := f } }

/-- WRITE PROBE on a port. -/
def State.doWriteProbe (p : Port) (tag probe level : Byte) (pulseWidth : BitVec 16) (gain : Byte)
    (window settle : BitVec 16) (lossRun recoveryRun : Byte) (s : State) : State :=
  s.request p tag 0x12 fun t => t.withRight p fun u =>
    u.writeShadow (probeChecks probe level pulseWidth gain window settle lossRun recoveryRun) fun b =>
      b.setFields (probeOf probe) (probeFieldsOf level pulseWidth gain window settle lossRun recoveryRun)

/-- WRITE_PROBE (R32). -/
def execWriteProbe (p : Port) (tag probe level : Byte) (pulseWidth : BitVec 16) (gain : Byte)
    (window settle : BitVec 16) (lossRun recoveryRun : Byte) (s : State) : Host.Outcome State Fault Refusal :=
  whileReleased (State.doWriteProbe p tag probe level pulseWidth gain window settle lossRun recoveryRun) s

/-- A bank with a gate place of a probe entry replaced (R33). -/
def Bank.setGate (b : Bank) (i : ProbeNo) (place : Place) (g : Option Gate) : Bank :=
  { b with probes := b.probes.set i { b.probes[i] with gates := b.probes[i].gates.set place g } }

/-- WRITE GATE on a port. -/
def State.doWriteGate (p : Port) (tag probe place occupied kind origin : Byte) (start width threshold : BitVec 16)
    (s : State) : State :=
  s.request p tag 0x13 fun t => t.withRight p fun u =>
    u.writeShadow (gateChecks probe place occupied kind origin start width threshold) fun b =>
      b.setGate (probeOf probe) (placeOf place) (gateOf occupied kind origin start width threshold)

/-- WRITE_GATE (R33). -/
def execWriteGate (p : Port) (tag probe place occupied kind origin : Byte) (start width threshold : BitVec 16)
    (s : State) : Host.Outcome State Fault Refusal :=
  whileReleased (State.doWriteGate p tag probe place occupied kind origin start width threshold) s

/-- A bank with a shot block replaced (R34). -/
def Bank.setBlock (b : Bank) (i : BlockIx) (x : Block) : Bank := { b with blocks := b.blocks.set i x }

/-- WRITE BLOCK on a port. -/
def State.doWriteBlock (p : Port)
    (tag block inUse probe decimation phase join report interval lengthCode next : Byte) (s : State) : State :=
  s.request p tag 0x14 fun t => t.withRight p fun u =>
    u.writeShadow (blockChecks block inUse probe decimation phase join report interval lengthCode next) fun b =>
      b.setBlock (blockIxOf block) (blockOf inUse probe decimation phase join report interval lengthCode next)

/-- WRITE_BLOCK (R34). -/
def execWriteBlock (p : Port)
    (tag block inUse probe decimation phase join report interval lengthCode next : Byte) (s : State) :
    Host.Outcome State Fault Refusal :=
  whileReleased (State.doWriteBlock p tag block inUse probe decimation phase join report interval lengthCode next) s

/-! ## Reading -/

/-- The bank that a role names to READ PLAN ENTRY: while COPYING, SHADOW gives the active bank's content (R35). -/
def PlanStore.readBank (x : PlanStore) (role : BankRole) : Bank :=
  match role with
  | .active => x.activeBank
  | .shadow => if x.commit = .copying then x.activeBank else x.shadowBank

/-- The item that READ PLAN ENTRY names in a bank (R35, 11.2). -/
def Bank.item (b : Bank) (item index : Byte) : PlanItem :=
  if item.toNat = 0 then .settings b.settings
  else if item.toNat = 1 then .probe (probeOf index) (b.probe (probeOf index))
  else .block (blockIxOf index) (b.block (blockIxOf index))

/-- The role a code in range names (11.2). -/
def roleOf (role : Byte) : BankRole := if role.toNat = 0 then .active else .shadow

/-- READ PLAN ENTRY is served (R35). -/
def State.readEntry (s : State) (role item index : Byte) : State × Reply :=
  match firstBad (readChecks role item index) with
  | some n => (s, .refused (.range n))
  | none =>
    (s, .done (.planEntry (roleOf role) ((s.plan.readBank (roleOf role)).item item index) s.plan.activeIx s.plan.epoch
      s.plan.commit))

/-- READ PLAN ENTRY on a port. -/
def State.doReadPlanEntry (p : Port) (tag role item index : Byte) (s : State) : State :=
  s.request p tag 0x09 (fun t => t.readEntry role item index)

/-- READ_PLAN_ENTRY (R35). -/
def execReadPlanEntry (p : Port) (tag role item index : Byte) (s : State) : Host.Outcome State Fault Refusal :=
  whileReleased (State.doReadPlanEntry p tag role item index) s

/-! ## COMMIT and ABANDON -/

/-- The Plan Store with a commit pending (R36). -/
def PlanStore.pend (x : PlanStore) (sig : BitVec 32) (p : Port) : PlanStore :=
  { x with commit := .pending, pendingSig := some sig, committer := some p }

/-- The commit check of the part as it stands (R16, R36). -/
def State.check (s : State) : Except CommitFault Figures :=
  commitCheck (decide (s.run.state ≠ .idle)) s.plan.activeBank s.plan.shadowBank

/-- COMMIT by the holder: BUSY unless NONE; a failed check is refused; a pass leaves the commit PENDING, and the swap
follows if its condition holds (R16, R36, R37). -/
def State.commitBy (s : State) (p : Port) : State × Reply :=
  if s.plan.commit = .none then
    match s.check with
    | .error f => (s, .refused (if f.kind = .runActive then .runActive else .invalid f))
    | .ok figs =>
      ((State.afterCycles { s with plan := s.plan.pend figs.signature p }).endPool, .pending figs)
  else (s, .refused .busy)

/-- COMMIT on a port. -/
def State.doCommit (p : Port) (tag : Byte) (s : State) : State :=
  s.request p tag 0x15 (fun t => t.withRight p (fun u => u.commitBy p))

/-- COMMIT (R36). -/
def execCommit (p : Port) (tag : Byte) (s : State) : Host.Outcome State Fault Refusal :=
  whileReleased (State.doCommit p tag) s

/-- ABANDON by the holder (R41). -/
def State.abandonBy (s : State) : State × Reply :=
  match s.plan.commit with
  | .none => ({ s with plan := s.plan.startCopy }, .done .nothing)
  | .pending => ({ s with plan := { s.plan with pendingSig := none, committer := none }.startCopy }, .done .nothing)
  | .copying => (s, .refused .busy)

/-- ABANDON on a port. -/
def State.doAbandon (p : Port) (tag : Byte) (s : State) : State :=
  s.request p tag 0x16 (fun t => t.withRight p State.abandonBy)

/-- ABANDON (R41). -/
def execAbandon (p : Port) (tag : Byte) (s : State) : Host.Outcome State Fault Refusal :=
  whileReleased (State.doAbandon p tag) s

end Sys2Proof.Machine
end

