-- ==== Sys2Proof/Machine/TrackEvents.lean ====
section
/-! DEFINITION. Events of the track and of the step timer: encoder transitions, speed windows, marker edges, step timer
expiries. -/

namespace Sys2Proof.Machine

/-- What a change of the line pair is (R44, R45). -/
inductive Transition where
  | none
  | plus
  | minus
  | fault
  deriving DecidableEq, Repr

/-- The judgement of a new line pair against the pair last seen, by the table of R44: the pair after (A, B) in the +1
direction is (not B, A). -/
def judge (a b a' b' : Bool) : Transition :=
  if a' = a ∧ b' = b then .none
  else if a' = !b ∧ b' = a then .plus
  else if a' = b ∧ b' = !a then .minus
  else .fault

/-- An encoder fault: the doubtful flag is set and an ODOMETER notice is produced (R45). -/
def State.encoderFault (s : State) : State :=
  State.handRecord { s with odo := { s.odo with doubtful := true } } (.odometer s.runStepNo)

/-- An encoder transition to a new pair. -/
def State.transition (s : State) (a b : Bool) : State :=
  let t := { s with odo := { s.odo with lineA := a, lineB := b } }
  match judge s.odo.lineA s.odo.lineB a b with
  | .none => t
  | .plus => (t.count true).endPool
  | .minus => (t.count false).endPool
  | .fault => t.encoderFault.endPool

/-- ENCODER_TRANSITION (R44 to R47, R52, R57 to R59). -/
def execEncoderTransition (a b : Bool) (s : State) : Host.Outcome State Fault Refusal :=
  whileReleased (fun t => t.transition a b) s

/-- The direction of a tally (R48). -/
def directionOf (t : Int) : Direction := if 0 < t then .increasing else if t < 0 then .decreasing else .still

/-- A speed window ends: the speed takes the tally, and the tally returns to 0 (R48). -/
def State.speedWindow (s : State) : State :=
  { s with
    odo := { s.odo with speed := s.odo.tally.natAbs, direction := directionOf s.odo.tally, tally := 0 } }

/-- SPEED_WINDOW_END (R48). -/
def execSpeedWindowEnd (s : State) : Host.Outcome State Fault Refusal := whileReleased State.speedWindow s

/-- A marker of the Odometer Unit. -/
def Odometer.marker (o : Odometer) : Marker → MarkerUnit
  | .m0 => o.m0
  | .m1 => o.m1

/-- Replaces a marker of the Odometer Unit. -/
def Odometer.setMarker (o : Odometer) (m : Marker) (x : MarkerUnit) : Odometer :=
  match m with
  | .m0 => { o with m0 := x }
  | .m1 => { o with m1 := x }

/-- Whether a change of a marker's input to a level is an event in its configured direction (R53). -/
def MarkerUnit.isEvent (x : MarkerUnit) (level : Bool) : Bool :=
  match x.edge with
  | .rising => !x.level && level
  | .falling => x.level && !level

/-- Whether an event is accepted: the marker is enabled and its counter has reached the lockout (R53). -/
def MarkerUnit.accepts (x : MarkerUnit) : Bool := x.enabled && decide (x.lockout ≤ x.counter)

/-- An accepted event: the counter is set to 0, a LOAD sets the position and clears the flag, and a MARK notice is
produced (R53). -/
def State.acceptMarker (s : State) (m : Marker) : State :=
  let x := s.odo.marker m
  let o := s.odo.setMarker m { x with counter := 0 }
  let p :=
    match x.action with
    | .load => { o with position := x.load, doubtful := false }
    | .mark => o
  State.handRecord { s with odo := p } (.mark m x.action s.runStepNo)

/-- A marker input changes to a level (R53, R54). -/
def State.markerChange (s : State) (m : Marker) (level : Bool) : State :=
  let x := s.odo.marker m
  let t := { s with odo := s.odo.setMarker m { x with level := level } }
  if x.isEvent level && x.accepts then (t.acceptMarker m).endPool else t

/-- MARKER_EDGE (R53). -/
def execMarkerEdge (m : Marker) (level : Bool) (s : State) : Host.Outcome State Fault Refusal :=
  whileReleased (fun t => t.markerChange m level) s

/-- The step timer is restarted with the timed period in force while the generator goes on issuing (R61). -/
def State.restartStepTimer (s : State) : State :=
  if s.gen.state = .issuing then { s with gen := { s.gen with timer := some s.bank.settings.period } } else s

/-- The step timer expires: with source TIMED in state ISSUING a step is issued (R61, R62). -/
def State.timerExpiry (s : State) : State :=
  if s.gen.state = .issuing ∧ s.gen.source = .timed ∧ s.gen.timer.isSome then
    s.issue.afterCycles.restartStepTimer.endPool
  else s

/-- STEP_TIMER_EXPIRY (R61). -/
def execStepTimerExpiry (s : State) : Host.Outcome State Fault Refusal := whileReleased State.timerExpiry s

end Sys2Proof.Machine
end

