-- ==== Sys2Proof/Machine/OdometerRequests.lean ====
section
/-! DEFINITION. The requests that set the scaler, the position and the markers (3.5, 3.6). -/

namespace Sys2Proof.Machine

/-- SET SCALER by the holder: RUN_ACTIVE outside IDLE, RANGE, or N and D replaced and the remainder cleared (R49). -/
def State.setScalerBy (s : State) (num den : BitVec 16) : State × Reply :=
  if s.run.state = .idle then
    match scalerBad num den with
    | some n => (s, .refused (.range n))
    | none => ({ s with odo := { s.odo with num := num.toNat, den := den.toNat, rem := 0 } }, .done .nothing)
  else (s, .refused .runActive)

/-- SET SCALER on a port. -/
def State.doSetScaler (p : Port) (tag : Byte) (num den : BitVec 16) (s : State) : State :=
  s.request p tag 0x17 (fun t => t.withRight p (fun u => u.setScalerBy num den))

/-- SET_SCALER (R49). -/
def execSetScaler (p : Port) (tag : Byte) (num den : BitVec 16) (s : State) : Host.Outcome State Fault Refusal :=
  whileReleased (State.doSetScaler p tag num den) s

/-- SET POSITION by the holder: the position is replaced and the doubtful flag cleared (R50). -/
def State.setPositionBy (s : State) (position : Pos) : State × Reply :=
  ({ s with odo := { s.odo with position := position, doubtful := false } }, .done .nothing)

/-- SET POSITION on a port. -/
def State.doSetPosition (p : Port) (tag : Byte) (position : BitVec 32) (s : State) : State :=
  s.request p tag 0x18 (fun t => t.withRight p (fun u => u.setPositionBy position))

/-- SET_POSITION (R50). -/
def execSetPosition (p : Port) (tag : Byte) (position : BitVec 32) (s : State) : Host.Outcome State Fault Refusal :=
  whileReleased (State.doSetPosition p tag position) s

/-- The marker a byte of 0 or 1 names. -/
def markerOf (b : Byte) : Marker := if b.toNat = 0 then .m0 else .m1

/-- A marker with a new configuration and its lockout counter at 65,535 (R51). -/
def MarkerUnit.configure (x : MarkerUnit) (enabled edge : Byte) (lockout : BitVec 16) (action : Byte) (load : Pos) :
    MarkerUnit :=
  { x with
    enabled := flagOf enabled
    edge := if edge.toNat = 0 then .rising else .falling
    lockout := lockout.toNat
    action := if action.toNat = 0 then .mark else .load
    load := load
    counter := 65535 }

/-- SET MARKER by the holder (R51). -/
def State.setMarkerBy (s : State) (marker enabled edge : Byte) (lockout : BitVec 16) (action : Byte) (load : Pos) :
    State × Reply :=
  match firstBad (markerChecks marker enabled edge action) with
  | some n => (s, .refused (.range n))
  | none =>
    ({ s with
        odo :=
          s.odo.setMarker (markerOf marker)
            ((s.odo.marker (markerOf marker)).configure enabled edge lockout action load) },
      .done .nothing)

/-- SET MARKER on a port. -/
def State.doSetMarker (p : Port) (tag marker enabled edge : Byte) (lockout : BitVec 16) (action : Byte)
    (load : BitVec 32) (s : State) : State :=
  s.request p tag 0x19 (fun t => t.withRight p (fun u => u.setMarkerBy marker enabled edge lockout action load))

/-- SET_MARKER (R51). -/
def execSetMarker (p : Port) (tag marker enabled edge : Byte) (lockout : BitVec 16) (action : Byte)
    (load : BitVec 32) (s : State) : Host.Outcome State Fault Refusal :=
  whileReleased (State.doSetMarker p tag marker enabled edge lockout action load) s

end Sys2Proof.Machine
end

