-- ==== Sys2Proof/Machine/PartEvents.lean ====
section
/-! DEFINITION. Hardware reset and the release of RESET. -/

namespace Sys2Proof.Machine

/-- HARDWARE_RESET: every block of the part takes its hardware-reset values, and nothing is produced (R1, R63, R119,
R152). The queue of commands and the model's counter of free values are not the part's. -/
def execHardwareReset (s : State) : Host.Outcome State Fault Refusal :=
  .next { State.reset with freeCount := s.freeCount, pending := s.pending }

/-- A port at the release of RESET: READY when its present line is asserted (R164). -/
def PortUnit.sample (u : PortUnit) (present : Bool) : PortUnit :=
  if present then { u with ctl := { u.ctl with state := .ready } } else u

/-- RESET_RELEASE: the encoder and marker levels are sampled, and ports whose present line is asserted enter READY
(R43, R48, R164). It cannot arise while RESET is not low. -/
def execResetRelease (encA encB m0 m1 : Bool) (present : PortSet) (s : State) : Host.Outcome State Fault Refusal :=
  .next
    (if s.resetLow then
      { s with
        resetLow := false
        odo :=
          { s.odo with
            lineA := encA, lineB := encB, m0 := { s.odo.m0 with level := m0 }, m1 := { s.odo.m1 with level := m1 } }
        hub := { s.hub with ports := s.hub.ports.mapIdx (fun i u => u.sample (present.getLsbD i)) } }
    else s)

end Sys2Proof.Machine
end

