-- ==== Sys2Proof/Machine/RunRequests.lean ====
section
/-! DEFINITION. Run control and probe holds (chapter 9): START RUN, STOP RUN, HOLD PROBE, RELEASE PROBE. -/

namespace Sys2Proof.Machine

/-! ## START RUN -/

/-- The run number after a number: 65,535 is followed by 1 (R154). -/
def nextRun (n : BitVec 16) : BitVec 16 := if n = 0xFFFF#16 then 1 else n + 1

/-- The Step Generator at a run's start (R55, R56). -/
def StepGen.started (x : StepSettings) : StepGen :=
  { state := .issuing
    source := x.source
    disp := 0
    frontier := 0
    lastBoundary := 0
    nextBoundary := x.pitch
    stepNo := 0
    timer := if x.source = .timed then some x.period else none }

/-- A sequencer at a run's start (R82). -/
def Sequencer.started : Sequencer := { Sequencer.reset with state := .waiting }

/-- The start of a run (R153), steps 1 to 5. -/
def State.beginRun (s : State) (limit : BitVec 24) (label : BitVec 16) : State :=
  State.refreshSpray
    { s with
      run := { s.run with state := .running, number := nextRun s.run.number, label := label, limit := limit }
      gen := StepGen.started s.bank.settings
      coup := { s.coup with probes := Vector.replicate 24 ProbeCoupling.reset }
      seqA := Sequencer.started
      seqB := Sequencer.started }

/-- START RUN is served (R153). -/
def State.startBy (s : State) (limit : BitVec 24) (label : BitVec 16) : State × Reply :=
  if s.run.state = .idle then
    (((s.beginRun limit label).handRecord (.run .start label 0)).endPool,
      .done (.runNumber (nextRun s.run.number)))
  else (s, .refused .runActive)

/-- START RUN on a port. -/
def State.doStartRun (p : Port) (tag : Byte) (limit : BitVec 24) (label : BitVec 16) (s : State) : State :=
  s.request p tag 0x0B (fun t => t.startBy limit label)

/-- START_RUN (R153). -/
def execStartRun (p : Port) (tag : Byte) (limit : BitVec 24) (label : BitVec 16) (s : State) :
    Host.Outcome State Fault Refusal :=
  whileReleased (State.doStartRun p tag limit label) s

/-! ## STOP RUN -/

/-- A snapshot entry bound to an aborted shot returns to WAITING (R149). -/
def SnapEntry.unclaim (e : SnapEntry) (n : Nat) : SnapEntry :=
  match e with
  | .none => .none
  | .waiting p => .waiting p
  | .claimed p m => if m = n then .waiting p else .claimed p m

/-- Returns the snapshot entry of one port that is bound to an aborted shot. -/
def Hub.unclaimAt (n : Nat) (h : Hub) (q : Port) : Hub :=
  h.setDist q { h.dist q with snap := (h.dist q).snap.unclaim n }

/-- The slot of an aborted shot becomes FREE with its page, and its snapshot entries return to WAITING (R84, R149). -/
def Hub.abortShot (h : Hub) (n : Nat) : Hub :=
  allPorts.foldl (Hub.unclaimAt n) (h.withPool (h.pool.freeSlot n))

/-- A stop reaches a channel (R84, R97): a LISTENING one drops its shot, and every granted one returns to FREE. -/
def State.abortChan (s : State) (c : Chan) : State :=
  match s.chans[c].phase, s.chans[c].binding with
  | .free, _ => s
  | .listening, some b =>
    (s.withHub (s.hub.abortShot b.slot)).setChan c { s.chans[c].release with eval := Evaluator.empty }
  | _, _ => s.setChan c s.chans[c].release

/-- A sequencer after a stop: OFF with nothing current, its fired counts as they were (R84). -/
def Sequencer.stopped (x : Sequencer) : Sequencer :=
  { x with state := .off, current := none, waiting := none, walk := none, group := [], windows := 0 }

/-- Steps 1 to 3 of R157: groups are aborted, the slots freed are offered to the pending list, requests are withdrawn,
pending steps discarded. -/
def State.abortGroups (s : State) : State :=
  let t := allChans.foldl State.abortChan s
  { t with
    hub := t.hub.drain
    arb := { t.arb with reqA := none, reqB := none }
    seqA := { t.seqA with waiting := none }
    seqB := { t.seqB with waiting := none } }

/-- Step 6 of R157: both sequencers and the Step Generator enter OFF. -/
def State.stopUnits (s : State) : State :=
  { s with
    seqA := s.seqA.stopped
    seqB := s.seqB.stopped
    gen := { s.gen with state := .off, timer := none } }

/-- An accepted STOP RUN (R157). -/
def State.stop (s : State) : State :=
  let t := (s.abortGroups.closeSkip .a).closeSkip .b
  (t.handRecord (.run .stopped t.run.label t.gen.stepNo)).stopUnits.enterIdle

/-- STOP RUN is served (R157); a pending commit is swapped when the sequencers turn OFF (R37). -/
def State.stopBy (s : State) : State × Reply :=
  if s.run.state = .idle then (s, .refused .noRun) else (s.stop.swapIfDue.endPool, .done .nothing)

/-- STOP RUN on a port. -/
def State.doStopRun (p : Port) (tag : Byte) (s : State) : State := s.request p tag 0x0C State.stopBy

/-- STOP_RUN (R157). -/
def execStopRun (p : Port) (tag : Byte) (s : State) : Host.Outcome State Fault Refusal :=
  whileReleased (State.doStopRun p tag) s

/-! ## HOLD PROBE -/

/-- The hold set of a probe replaced. -/
def State.setHold (s : State) (i : ProbeNo) (x : PortSet) : State :=
  { s with run := { s.run with holds := s.run.holds.set i x } }

/-- A REQUESTING group that names a probe just held is re-formed without it (R70, R96): its request is for one channel
less, or is withdrawn and the walk goes on; a pass is then run. -/
def State.reform (s : State) (i : ProbeNo) : State :=
  let r := railOf i
  let g := (s.seq r).group.filter (fun b => decide ((s.bank.block b).probe ≠ i))
  if (s.seq r).state = .requesting ∧ g.length < (s.seq r).group.length then
    let t := s.setSeq r { s.seq r with group := g }
    match g with
    | [] => (({ t with arb := t.arb.setReq r none }).walkOn r).pass.afterCycles
    | _ :: _ => State.afterCycles (State.pass { t with arb := t.arb.setReq r (some g.length) })
  else s

/-- HOLD PROBE with a probe in range (R160). -/
def State.hold (s : State) (p : Port) (i : ProbeNo) : State :=
  if s.run.holds[i] = 0 then
    (((s.setHold i (portAdd p s.run.holds[i])).handRecord (.hold i .held p)).reform i).endPool
  else s.setHold i (portAdd p s.run.holds[i])

/-- HOLD PROBE is served (R160). -/
def State.holdBy (s : State) (p : Port) (probe : Byte) : State × Reply :=
  match firstBad [inRange 0 23 probe.toNat] with
  | some n => (s, .refused (.range n))
  | none => (s.hold p (probeOf probe), .done .nothing)

/-- HOLD PROBE on a port. -/
def State.doHoldProbe (p : Port) (tag probe : Byte) (s : State) : State :=
  s.request p tag 0x0D (fun t => t.holdBy p probe)

/-- HOLD_PROBE (R160). -/
def execHoldProbe (p : Port) (tag probe : Byte) (s : State) : Host.Outcome State Fault Refusal :=
  whileReleased (State.doHoldProbe p tag probe) s

/-! ## RELEASE PROBE -/

/-- A port leaves the hold set of a probe; a set that becomes empty gives a HOLD RELEASED record (R161, R163). -/
def State.unhold (s : State) (p : Port) (i : ProbeNo) : State :=
  if portIn p s.run.holds[i] then
    let t := s.setHold i (portRemove p s.run.holds[i])
    if t.run.holds[i] = 0 then t.handRecord (.hold i .released p) else t
  else s

/-- RELEASE PROBE is served (R161). -/
def State.unholdBy (s : State) (p : Port) (probe : Byte) : State × Reply :=
  match firstBad [inRange 0 23 probe.toNat] with
  | some n => (s, .refused (.range n))
  | none =>
    if portIn p s.run.holds[probeOf probe] then ((s.unhold p (probeOf probe)).endPool, .done .nothing)
    else (s, .refused .notHeld)

/-- RELEASE PROBE on a port. -/
def State.doReleaseProbe (p : Port) (tag probe : Byte) (s : State) : State :=
  s.request p tag 0x0E (fun t => t.unholdBy p probe)

/-- RELEASE_PROBE (R161). -/
def execReleaseProbe (p : Port) (tag probe : Byte) (s : State) : Host.Outcome State Fault Refusal :=
  whileReleased (State.doReleaseProbe p tag probe) s

end Sys2Proof.Machine
end

