-- ==== Sys2Proof/WellFormed.lean ====
section
/-! DEFINITION. Which commands can be sent: the checks on a command's operands that do not depend on the state. -/

namespace Sys2Proof

/-- The request kinds listed in table 11.2. -/
def knownKind (k : Byte) : Bool :=
  (1 ≤ k.toNat && k.toNat ≤ 0x0E) || (0x10 ≤ k.toNat && k.toNat ≤ 0x19)

/-- The operand checks of each command. An unknown request has an unlisted kind (R166); a channel's stream is not
longer than the longest window (R6); the characters of a framing error are those of at most one frame (R165). -/
def Instr.wellFormed : Instr → Bool
  | .hardwareReset => true
  | .resetRelease _ _ _ _ _ => true
  | .encoderTransition _ _ => true
  | .speedWindowEnd => true
  | .markerEdge _ _ => true
  | .stepTimerExpiry => true
  | .channelWindowEnd _ _ rest => decide (rest.length < Config.maxWindowSamples)
  | .channelSettleEnd _ => true
  | .shadowCopyCompletion => true
  | .editIdleTimerExpiry => true
  | .heldTakeExpiry _ => true
  | .presentAsserted _ => true
  | .portReset _ => true
  | .frameError _ chars => decide (chars.length ≤ Config.maxRequestFrame)
  | .interCharacterGapTimeout _ => true
  | .unknownRequest _ _ kind => !knownKind kind
  | .busyRefusal _ _ _ => true
  | .frameSent _ => true
  | .identify _ _ => true
  | .readStatus _ _ => true
  | .configurePort _ _ _ _ => true
  | .subscribe _ _ _ _ _ _ => true
  | .general _ _ _ => true
  | .take _ _ _ => true
  | .snapshot _ _ _ => true
  | .cancelSnapshot _ _ => true
  | .readPlanEntry _ _ _ _ _ => true
  | .claimEdit _ _ => true
  | .releaseEdit _ _ => true
  | .writeStepSettings _ _ _ _ _ _ _ _ => true
  | .writeProbe _ _ _ _ _ _ _ _ _ _ => true
  | .writeGate _ _ _ _ _ _ _ _ _ _ => true
  | .writeBlock _ _ _ _ _ _ _ _ _ _ _ _ => true
  | .commit _ _ => true
  | .abandon _ _ => true
  | .setScaler _ _ _ _ => true
  | .setPosition _ _ _ => true
  | .setMarker _ _ _ _ _ _ _ _ => true
  | .startRun _ _ _ _ => true
  | .stopRun _ _ => true
  | .holdProbe _ _ _ => true
  | .releaseProbe _ _ _ => true

end Sys2Proof
end

