-- ==== Sys2Proof/Machine/PortEvents.lean ====
section
/-! DEFINITION. Events of a port other than the listed requests (10.1, 10.3 to 10.5): the held-TAKE timer, the present
line, requests refused BUSY or UNKNOWN_REQUEST, and the end of a frame's sending. -/

namespace Sys2Proof.Machine

/-- The held-TAKE timer of a port expires (R170): END with 0 entries is sent, and the port is ANSWERING until it has
been. -/
def State.heldExpiry (s : State) (p : Port) : State :=
  if (s.hub.ctl p).state = .heldTake then s.withHub (s.hub.endHold p .answering) else s

/-- HELD_TAKE_EXPIRY (R170). -/
def execHeldTakeExpiry (p : Port) (s : State) : Host.Outcome State Fault Refusal :=
  whileReleased (fun t => t.heldExpiry p) s

/-- A present line is asserted: an ABSENT port enters READY (R164). -/
def State.presentRises (s : State) (p : Port) : State :=
  if (s.hub.ctl p).state = .absent then s.withHub (s.hub.setCtl p { s.hub.ctl p with state := .ready }) else s

/-- PRESENT_ASSERTED (R164). -/
def execPresentAsserted (p : Port) (s : State) : Host.Outcome State Fault Refusal :=
  whileReleased (fun t => t.presentRises p) s

/-- Steps 1 and 2 of R171: the port takes its reset values, and the references its queue held are released in queue
order (R151). The port wants nothing of what is fanned out then. -/
def Hub.resetPort (h : Hub) (p : Port) : Hub :=
  (h.dist p).queue.foldl Hub.releaseEntry (h.setPort p PortUnit.reset)

/-- Step 3 of R171: the port leaves every hold set, in increasing probe number (R163). -/
def State.dropHolds (s : State) (p : Port) : State := (List.finRange 24).foldl (fun t i => t.unhold p i) s

/-- Step 4 of R171: the edit right is lost if the port holds it (R28). -/
def State.dropRight (s : State) (p : Port) : State :=
  if s.plan.holder = some p then { s with plan := s.plan.loseRight } else s

/-- A present line is deasserted: the port is reset (R171); in ABSENT nothing changes (R164). -/
def State.presentFalls (s : State) (p : Port) : State :=
  if (s.hub.ctl p).state = .absent then s
  else (((s.withHub (s.hub.resetPort p)).dropHolds p).dropRight p).endPool

/-- PORT_RESET (R171). -/
def execPortReset (p : Port) (s : State) : Host.Outcome State Fault Refusal :=
  whileReleased (fun t => t.presentFalls p) s

/-- A complete frame of an unlisted kind on a port (R166). -/
def State.doUnknown (p : Port) (tag kind : Byte) (s : State) : State :=
  s.request p tag kind (fun t => (t, .refused .unknownRequest))

/-- UNKNOWN_REQUEST (R166). A frame of a listed kind is no such event. -/
def execUnknownRequest (p : Port) (tag kind : Byte) (s : State) : Host.Outcome State Fault Refusal :=
  whileReleased (fun t => if knownKind kind then t else t.doUnknown p tag kind) s

/-- BUSY_REFUSAL (R166): a complete frame of any kind at a port that is ANSWERING. In another port state it is no such
event. -/
def execBusyRefusal (p : Port) (tag kind : Byte) (s : State) : Host.Outcome State Fault Refusal :=
  whileReleased
    (fun t => if (t.hub.ctl p).state = .answering then t.receive p tag kind (fun u => u) else t) s

/-- The transmit side of a port is idle after a refusal's frame (R167). -/
def Hub.idleTx (h : Hub) (p : Port) : Hub := h.setCtl p { h.ctl p with sending := none }

/-- The transmit side is idle after a frame of an answer; with its last frame the port returns to READY (R166). -/
def Hub.answerSent (h : Hub) (p : Port) : Hub :=
  if (h.ctl p).state = .answering ∧ (h.ctl p).answers = [] ∧ (h.ctl p).take = none then
    h.setCtl p { h.ctl p with sending := none, state := .ready }
  else h.idleTx p

/-- The count of a TAKE after an entry has been sent (R168). -/
def TakeJob.oneSent (t : TakeJob) : TakeJob := { t with left := t.left - 1, sent := t.sent + 1 }

/-- The head entry leaves the queue, and its reference is released (R145). -/
def Hub.removeHead (h : Hub) (p : Port) (e : Entry) (rest : List Entry) : Hub :=
  ((h.setCtl p { h.ctl p with sending := none, take := (h.ctl p).take.map TakeJob.oneSent }).putDist p
    { h.dist p with queue := rest }).releaseEntry e

/-- The last character of the frame being sent on a port has been sent (R145, R167, R168). -/
def State.sent (s : State) (p : Port) : State :=
  match (s.hub.ctl p).sending with
  | none => s
  | some (.refusal _) => s.withHub ((s.hub.idleTx p).startNext p)
  | some (.answer _) => s.withHub ((s.hub.answerSent p).startNext p)
  | some (.entry _) =>
    match (s.hub.dist p).queue with
    | [] => s.withHub ((s.hub.idleTx p).startNext p)
    | e :: rest =>
      let t := (s.withHub (s.hub.removeHead p e rest)).endPool
      t.withHub (t.hub.startNext p)

/-- FRAME_SENT (R167). -/
def execFrameSent (p : Port) (s : State) : Host.Outcome State Fault Refusal := whileReleased (fun t => t.sent p) s

end Sys2Proof.Machine
end

