-- ==== Sys2Proof/Machine/PortRequests.lean ====
section
/-! DEFINITION. The requests of the ports themselves (10.4, 10.6, chapter 8): IDENTIFY, READ STATUS, CONFIGURE PORT,
SUBSCRIBE, GENERAL, TAKE, SNAPSHOT, CANCEL SNAPSHOT. -/

namespace Sys2Proof.Machine

/-- IDENTIFY on a port (R172). -/
def State.doIdentify (p : Port) (tag : Byte) (s : State) : State :=
  s.request p tag 0x01 (fun t => (t, .done (.identity p)))

/-- IDENTIFY (R172). -/
def execIdentify (p : Port) (tag : Byte) (s : State) : Host.Outcome State Fault Refusal :=
  whileReleased (State.doIdentify p tag) s

/-- The values of a STATUS answer on a port, taken at one moment (R173). -/
def State.statusOf (s : State) (p : Port) : Status :=
  { runState := s.run.state
    runNumber := s.run.number
    stepNo := s.gen.stepNo
    position := s.odo.position
    doubtful := s.odo.doubtful
    speed := s.odo.speed
    direction := s.odo.direction
    lag := s.gen.frontier.toInt - s.gen.disp.toInt
    holder := s.plan.holder
    commit := s.plan.commit
    activeIx := s.plan.activeIx
    epoch := s.plan.epoch
    signature := s.plan.signature
    freeSlots := s.hub.pool.freeSlots
    freePages := s.hub.pool.freePages
    waiting := s.hub.pool.waiting.length
    depth := (s.hub.dist p).queue.length
    gapOpen := (s.hub.dist p).gap.isSome
    holds := s.run.holds
    coupling := s.coup.probes.map (fun x => x.state) }

/-- READ STATUS on a port (R173). -/
def State.doReadStatus (p : Port) (tag : Byte) (s : State) : State :=
  s.request p tag 0x02 (fun t => (t, .done (.status (t.statusOf p))))

/-- READ_STATUS (R173). -/
def execReadStatus (p : Port) (tag : Byte) (s : State) : Host.Outcome State Fault Refusal :=
  whileReleased (State.doReadStatus p tag) s

/-- The hold time and the attention threshold of a port are set, and its attention line follows (R150, R172). -/
def Hub.configure (h : Hub) (p : Port) (hold threshold : Nat) : Hub :=
  (h.setCtl p { h.ctl p with holdTime := hold }).putDist p { h.dist p with threshold := threshold }

/-- CONFIGURE PORT on a port (R172). -/
def State.doConfigurePort (p : Port) (tag : Byte) (hold threshold : BitVec 16) (s : State) : State :=
  s.request p tag 0x03 fun t =>
    match firstBad (configureChecks hold threshold) with
    | some n => (t, .refused (.range n))
    | none => (t.withHub (t.hub.configure p hold.toNat threshold.toNat), .done .nothing)

/-- CONFIGURE_PORT (R172). -/
def execConfigurePort (p : Port) (tag : Byte) (hold threshold : BitVec 16) (s : State) :
    Host.Outcome State Fault Refusal :=
  whileReleased (State.doConfigurePort p tag hold threshold) s

/-- A subscription entry of a port is replaced (R139). -/
def Hub.subscribe (h : Hub) (p : Port) (entry matchVal mask enabled : Byte) : Hub :=
  h.setDist p
    { h.dist p with
      subs :=
        (h.dist p).subs.set (Fin.ofNat 8 entry.toNat)
          { enabled := flagOf enabled, matchVal := matchVal.setWidth 6, mask := mask.setWidth 6 } }

/-- SUBSCRIBE on a port (R139). -/
def State.doSubscribe (p : Port) (tag entry matchVal mask enabled : Byte) (s : State) : State :=
  s.request p tag 0x04 fun t =>
    match firstBad (subscribeChecks entry matchVal mask enabled) with
    | some n => (t, .refused (.range n))
    | none => (t.withHub (t.hub.subscribe p entry matchVal mask enabled), .done .nothing)

/-- SUBSCRIBE (R139). -/
def execSubscribe (p : Port) (tag entry matchVal mask enabled : Byte) (s : State) :
    Host.Outcome State Fault Refusal :=
  whileReleased (State.doSubscribe p tag entry matchVal mask enabled) s

/-- GENERAL on a port (R140). -/
def State.doGeneral (p : Port) (tag flag : Byte) (s : State) : State :=
  s.request p tag 0x05 fun t =>
    match firstBad [isFlag flag] with
    | some n => (t, .refused (.range n))
    | none => (t.withHub (t.hub.setDist p { t.hub.dist p with general := flagOf flag }), .done .nothing)

/-- GENERAL (R140). -/
def execGeneral (p : Port) (tag flag : Byte) (s : State) : Host.Outcome State Fault Refusal :=
  whileReleased (State.doGeneral p tag flag) s

/-- A TAKE is taken on a port in READY (R168, R169): RANGE; on an empty queue with no gap END at once, or the TAKE is
held when the hold time is above 0; otherwise its entries are sent. -/
def Hub.takeEntries (h : Hub) (p : Port) (tag count : Byte) : Hub :=
  match firstBad [inRange 1 32 count.toNat] with
  | some n => h.answer p tag 0x06 (.refused (.range n))
  | none =>
    if (h.dist p).queue = [] ∧ (h.dist p).gap = none then
      if (h.ctl p).holdTime = 0 then h.answerFrame p (.endTake tag 0 0 false)
      else
        h.setCtl p
          { h.ctl p with
            state := .heldTake
            take := some { tag := tag, left := count.toNat, sent := 0 }
            heldTimer := some (h.ctl p).holdTime }
    else
      (h.setCtl p
        { h.ctl p with
          state := .answering
          take := some { tag := tag, left := count.toNat, sent := 0 } }).startNext p

/-- TAKE on a port (R168). -/
def State.doTake (p : Port) (tag count : Byte) (s : State) : State :=
  s.receive p tag 0x06 (fun t => t.withHub (t.hub.takeEntries p tag count))

/-- TAKE (R168). -/
def execTake (p : Port) (tag count : Byte) (s : State) : Host.Outcome State Fault Refusal :=
  whileReleased (State.doTake p tag count) s

/-- The snapshot entry of a port is replaced. -/
def Hub.setSnap (h : Hub) (p : Port) (e : SnapEntry) : Hub := h.setDist p { h.dist p with snap := e }

/-- SNAPSHOT is served (R146). -/
def State.snapshotBy (s : State) (p : Port) (probe : Byte) : State × Reply :=
  match firstBad [inRange 0 23 probe.toNat] with
  | some n => (s, .refused (.range n))
  | none =>
    match (s.hub.dist p).snap with
    | .none => (s.withHub (s.hub.setSnap p (.waiting (probeOf probe))), .done .nothing)
    | .waiting _ => (s.withHub (s.hub.setSnap p (.waiting (probeOf probe))), .done .nothing)
    | .claimed _ _ => (s, .refused .busy)

/-- SNAPSHOT on a port. -/
def State.doSnapshot (p : Port) (tag probe : Byte) (s : State) : State :=
  s.request p tag 0x07 (fun t => t.snapshotBy p probe)

/-- SNAPSHOT (R146). -/
def execSnapshot (p : Port) (tag probe : Byte) (s : State) : Host.Outcome State Fault Refusal :=
  whileReleased (State.doSnapshot p tag probe) s

/-- CANCEL SNAPSHOT on a port (R146). -/
def State.doCancelSnapshot (p : Port) (tag : Byte) (s : State) : State :=
  s.request p tag 0x08 (fun t => (t.withHub (t.hub.setSnap p .none), .done .nothing))

/-- CANCEL_SNAPSHOT (R146). -/
def execCancelSnapshot (p : Port) (tag : Byte) (s : State) : Host.Outcome State Fault Refusal :=
  whileReleased (State.doCancelSnapshot p tag) s

end Sys2Proof.Machine
end

