-- ==== Sys2Proof/Machine/Receive.lean ====
section
/-! DEFINITION. The receive side of a port (R165, R174): frames assembled character by character, their checks, and the
handling of a complete request frame by its kind (11.2). -/

namespace Sys2Proof.Machine

/-- The payload length of a listed request kind (11.2). -/
def payloadLength (kind : Byte) : Option Nat :=
  match kind.toNat with
  | 0x01 => some 0
  | 0x02 => some 0
  | 0x03 => some 4
  | 0x04 => some 4
  | 0x05 => some 1
  | 0x06 => some 1
  | 0x07 => some 1
  | 0x08 => some 0
  | 0x09 => some 3
  | 0x0A => some 0
  | 0x0B => some 5
  | 0x0C => some 0
  | 0x0D => some 1
  | 0x0E => some 1
  | 0x10 => some 0
  | 0x11 => some 10
  | 0x12 => some 11
  | 0x13 => some 11
  | 0x14 => some 10
  | 0x15 => some 0
  | 0x16 => some 0
  | 0x17 => some 4
  | 0x18 => some 4
  | 0x19 => some 10
  | _ => none

/-- Two bytes of a payload as a number, least significant first. -/
def word16 (a b : Byte) : BitVec 16 := BitVec.ofNat 16 (leValue [a, b])

/-- Three bytes of a payload as a number, least significant first. -/
def word24 (a b c : Byte) : BitVec 24 := BitVec.ofNat 24 (leValue [a, b, c])

/-- Four bytes of a payload as a number, least significant first. -/
def word32 (a b c d : Byte) : BitVec 32 := BitVec.ofNat 32 (leValue [a, b, c, d])

/-- A complete request frame is handled by its kind, with the payload fields in the order of table 11.2 (R165, R166).
A payload that does not fit its kind has been found to be a framing error before. -/
def State.handleFrame (p : Port) (tag kind : Byte) (payload : List Byte) (s : State) : State :=
  match kind.toNat, payload with
  | 0x01, [] => s.doIdentify p tag
  | 0x02, [] => s.doReadStatus p tag
  | 0x03, [a, b, c, d] => s.doConfigurePort p tag (word16 a b) (word16 c d)
  | 0x04, [a, b, c, d] => s.doSubscribe p tag a b c d
  | 0x05, [a] => s.doGeneral p tag a
  | 0x06, [a] => s.doTake p tag a
  | 0x07, [a] => s.doSnapshot p tag a
  | 0x08, [] => s.doCancelSnapshot p tag
  | 0x09, [a, b, c] => s.doReadPlanEntry p tag a b c
  | 0x0A, [] => s.doClaimEdit p tag
  | 0x0B, [a, b, c, d, e] => s.doStartRun p tag (word24 a b c) (word16 d e)
  | 0x0C, [] => s.doStopRun p tag
  | 0x0D, [a] => s.doHoldProbe p tag a
  | 0x0E, [a] => s.doReleaseProbe p tag a
  | 0x10, [] => s.doReleaseEdit p tag
  | 0x11, [a, b, c, d, e, f, g, h, i, j] =>
    s.doWriteStepSettings p tag a (word16 b c) (word32 d e f g) h i j
  | 0x12, [a, b, c, d, e, f, g, h, i, j, k] =>
    s.doWriteProbe p tag a b (word16 c d) e (word16 f g) (word16 h i) j k
  | 0x13, [a, b, c, d, e, f, g, h, i, j, k] =>
    s.doWriteGate p tag a b c d e (word16 f g) (word16 h i) (word16 j k)
  | 0x14, [a, b, c, d, e, f, g, h, i, j] => s.doWriteBlock p tag a b c d e f g h i j
  | 0x15, [] => s.doCommit p tag
  | 0x16, [] => s.doAbandon p tag
  | 0x17, [a, b, c, d] => s.doSetScaler p tag (word16 a b) (word16 c d)
  | 0x18, [a, b, c, d] => s.doSetPosition p tag (word32 a b c d)
  | 0x19, [a, b, c, d, e, f, g, h, i, j] =>
    s.doSetMarker p tag a b c (word16 d e) f (word32 g h i j)
  | _, _ => s.doUnknown p tag kind

/-- A port's receive buffer replaced. -/
def State.setRx (s : State) (p : Port) (rx : List Byte) : State :=
  s.withHub (s.hub.setCtl p { s.hub.ctl p with rx := rx })

/-- A framing error: the frame is discarded and a FRAME_ERROR refusal is formed (R165). -/
def State.framingError (s : State) (p : Port) : State :=
  (s.setRx p []).withHub ((s.setRx p []).hub.refuse p frameErrorFrame)

/-- A frame whose characters after the start character have all been received: `len` is its length character, `body`
the characters after it, check included (R165 steps 3 and 4, R174). -/
def State.frameComplete (s : State) (p : Port) (len : Byte) (body : List Byte) : State :=
  let inner := body.take (body.length - 2)
  if body.drop (body.length - 2) = checkBytes (len :: inner) then
    match inner with
    | kind :: tag :: payload =>
      match payloadLength kind with
      | some n => if payload.length = n then (s.setRx p []).handleFrame p tag kind payload else s.framingError p
      | none => (s.setRx p []).handleFrame p tag kind payload
    | _ => s.framingError p
  else s.framingError p

/-- The start character of a frame (11.1). -/
def startChar : Byte := 0xA5

/-- A character arrives on a port that is not ABSENT (R165 steps 1 to 3; R174). -/
def State.receiveChar (s : State) (p : Port) (c : Byte) : State :=
  match (s.hub.ctl p).rx with
  | [] => if c = startChar then s.setRx p [c] else s
  | [a] => if 4 ≤ c.toNat ∧ c.toNat ≤ 62 then s.setRx p [a, c] else s.framingError p
  | a :: len :: body =>
    if (body ++ [c]).length < len.toNat then s.setRx p (a :: len :: (body ++ [c]))
    else s.frameComplete p len (body ++ [c])

/-- Characters arrive on a port; in ABSENT they are ignored (R164, R165). -/
def State.receiveChars (s : State) (p : Port) (chars : List Byte) : State :=
  if (s.hub.ctl p).state = .absent then s else chars.foldl (fun t c => t.receiveChar p c) s

/-- FRAME_ERROR (R165): the characters given arrive; where they make a frame with a bad length or check, it is discarded
and a FRAME_ERROR refusal is formed. -/
def execFrameError (p : Port) (chars : List Byte) (s : State) : Host.Outcome State Fault Refusal :=
  whileReleased (fun t => t.receiveChars p chars) s

/-- A gap of more than 100 µs follows a character: a partial frame is discarded and a FRAME_ERROR refusal is formed
(R165, step 5). -/
def State.gapTimeout (s : State) (p : Port) : State :=
  if (s.hub.ctl p).rx = [] then s else s.framingError p

/-- INTER_CHARACTER_GAP_TIMEOUT (R165). -/
def execInterCharacterGapTimeout (p : Port) (s : State) : Host.Outcome State Fault Refusal :=
  whileReleased (fun t => t.gapTimeout p) s

end Sys2Proof.Machine
end

