-- ==== Sys2Proof/Machine/Dispatch.lean ====
section
/-! DEFINITION. The meaning of every command: one arm per constructor of Instr, each a call of its meaning. -/

namespace Sys2Proof.Machine

/-- The effect of a command on everything but the queue of commands. -/
def exec (i : Instr) (s : State) : Host.Outcome State Fault Refusal :=
  match i with
  | .hardwareReset => Sys2Proof.Machine.execHardwareReset s
  | .resetRelease encA encB m0 m1 present => Sys2Proof.Machine.execResetRelease encA encB m0 m1 present s
  | .encoderTransition a b => Sys2Proof.Machine.execEncoderTransition a b s
  | .speedWindowEnd => Sys2Proof.Machine.execSpeedWindowEnd s
  | .markerEdge m level => Sys2Proof.Machine.execMarkerEdge m level s
  | .stepTimerExpiry => Sys2Proof.Machine.execStepTimerExpiry s
  | .channelWindowEnd ch first rest => Sys2Proof.Machine.execChannelWindowEnd ch first rest s
  | .channelSettleEnd ch => Sys2Proof.Machine.execChannelSettleEnd ch s
  | .shadowCopyCompletion => Sys2Proof.Machine.execShadowCopyCompletion s
  | .editIdleTimerExpiry => Sys2Proof.Machine.execEditIdleTimerExpiry s
  | .heldTakeExpiry p => Sys2Proof.Machine.execHeldTakeExpiry p s
  | .presentAsserted p => Sys2Proof.Machine.execPresentAsserted p s
  | .portReset p => Sys2Proof.Machine.execPortReset p s
  | .frameError p chars => Sys2Proof.Machine.execFrameError p chars s
  | .interCharacterGapTimeout p => Sys2Proof.Machine.execInterCharacterGapTimeout p s
  | .unknownRequest p tag kind => Sys2Proof.Machine.execUnknownRequest p tag kind s
  | .busyRefusal p tag kind => Sys2Proof.Machine.execBusyRefusal p tag kind s
  | .frameSent p => Sys2Proof.Machine.execFrameSent p s
  | .identify p tag => Sys2Proof.Machine.execIdentify p tag s
  | .readStatus p tag => Sys2Proof.Machine.execReadStatus p tag s
  | .configurePort p tag hold threshold => Sys2Proof.Machine.execConfigurePort p tag hold threshold s
  | .subscribe p tag entry matchVal mask enabled => Sys2Proof.Machine.execSubscribe p tag entry matchVal mask enabled s
  | .general p tag flag => Sys2Proof.Machine.execGeneral p tag flag s
  | .take p tag count => Sys2Proof.Machine.execTake p tag count s
  | .snapshot p tag probe => Sys2Proof.Machine.execSnapshot p tag probe s
  | .cancelSnapshot p tag => Sys2Proof.Machine.execCancelSnapshot p tag s
  | .readPlanEntry p tag role item index => Sys2Proof.Machine.execReadPlanEntry p tag role item index s
  | .claimEdit p tag => Sys2Proof.Machine.execClaimEdit p tag s
  | .releaseEdit p tag => Sys2Proof.Machine.execReleaseEdit p tag s
  | .writeStepSettings p tag source pitch period priority headA headB => Sys2Proof.Machine.execWriteStepSettings p tag source pitch period priority headA headB s
  | .writeProbe p tag probe level pulseWidth gain window settle lossRun recoveryRun => Sys2Proof.Machine.execWriteProbe p tag probe level pulseWidth gain window settle lossRun recoveryRun s
  | .writeGate p tag probe place occupied kind origin start width threshold => Sys2Proof.Machine.execWriteGate p tag probe place occupied kind origin start width threshold s
  | .writeBlock p tag block inUse probe decimation phase join report interval lengthCode next => Sys2Proof.Machine.execWriteBlock p tag block inUse probe decimation phase join report interval lengthCode next s
  | .commit p tag => Sys2Proof.Machine.execCommit p tag s
  | .abandon p tag => Sys2Proof.Machine.execAbandon p tag s
  | .setScaler p tag num den => Sys2Proof.Machine.execSetScaler p tag num den s
  | .setPosition p tag position => Sys2Proof.Machine.execSetPosition p tag position s
  | .setMarker p tag marker enabled edge lockout action load => Sys2Proof.Machine.execSetMarker p tag marker enabled edge lockout action load s
  | .startRun p tag limit label => Sys2Proof.Machine.execStartRun p tag limit label s
  | .stopRun p tag => Sys2Proof.Machine.execStopRun p tag s
  | .holdProbe p tag probe => Sys2Proof.Machine.execHoldProbe p tag probe s
  | .releaseProbe p tag probe => Sys2Proof.Machine.execReleaseProbe p tag probe s

end Sys2Proof.Machine
end

