-- ==== Sys2Proof/Machine/Frames.lean ====
section
/-! DEFINITION. The frames sent by the part as characters on the link (11.1, 11.3, 11.4): the codes of the tables, the
payload of each frame, its check, and the characters of the frame being sent on a port. -/

namespace Sys2Proof.Machine

/-! ## Codes -/

/-- The code of a port, probe, block, rail or gate place that is none or absent (R176). -/
def absentCode : Byte := 255

/-- The code of a number that may be absent. -/
def optionCode (x : Option Nat) : Byte :=
  match x with
  | some n => BitVec.ofNat 8 n
  | none => absentCode

/-- The code of a rail (11.4). -/
def Rail.code : Rail → Nat
  | .a => 0
  | .b => 1

/-- The code of a coupling state (11.3). -/
def CouplingState.code : CouplingState → Byte
  | .unknown => 0
  | .coupled => 1
  | .doubt => 2
  | .uncoupled => 3

/-- The code of a gate status (11.4). -/
def GateStatus.code : GateStatus → Byte
  | .hit => 0
  | .clear => 1
  | .unsynced => 2

/-- The code of a commit state (11.3). -/
def CommitState.code : CommitState → Byte
  | .none => 0
  | .pending => 1
  | .copying => 2

/-- The code of a run state (11.3). -/
def RunState.code : RunState → Byte
  | .idle => 0
  | .running => 1
  | .finishing => 2

/-- The code of a direction (11.3). -/
def Direction.code : Direction → Byte
  | .still => 0
  | .increasing => 1
  | .decreasing => 2

/-- The code of a fault kind, by its place in the fault table without RUN_ACTIVE, which is answered with a reason of its
own and carries no fault (11.3, R16). -/
def FaultKind.code : FaultKind → Byte
  | .runActive => 0
  | .couplingDuplicate => 1
  | .couplingOrigin => 2
  | .interfaceWithoutCoupling => 3
  | .gateBeyondWindow => 4
  | .phaseRange => 5
  | .blockNotInUse => 6
  | .chainLoop => 7
  | .chainTooLong => 8
  | .chainShared => 9
  | .wrongRail => 10
  | .joinAtHead => 11
  | .joinChain => 12
  | .joinSameProbe => 13

/-- The code of a reason (11.3). -/
def Reason.code : Reason → Byte
  | .notHolder => 1
  | .heldBy _ => 2
  | .busy => 3
  | .invalid _ => 4
  | .runActive => 5
  | .noRun => 6
  | .range _ => 7
  | .notHeld => 8
  | .unknownRequest => 9
  | .frameError => 10

/-! ## Responses (11.3) -/

/-- The outcome code of a reply. -/
def Reply.outcomeCode : Reply → Byte
  | .done _ => 0
  | .pending _ => 1
  | .refused _ => 2

/-- The reason code of a reply: 0 when not refused. -/
def Reply.reasonCode : Reply → Byte
  | .done _ => 0
  | .pending _ => 0
  | .refused r => r.code

/-- The data of a refusal. -/
def Reason.data : Reason → List Byte
  | .notHolder => []
  | .heldBy q => [BitVec.ofNat 8 q.val]
  | .busy => []
  | .invalid f =>
    [f.kind.code, optionCode (f.rail.map Rail.code), optionCode (f.block.map blockNumber),
      optionCode (f.probe.map Fin.val), optionCode (f.place.map Fin.val)]
  | .runActive => []
  | .noRun => []
  | .range n => leBytes 1 n
  | .notHeld => []
  | .unknownRequest => []
  | .frameError => []

/-- The item and index of READ PLAN ENTRY with the item bytes (11.3, 11.5). -/
def PlanItem.data : PlanItem → List Byte × List Byte
  | .settings x => ([0, 0], settingsBytes x)
  | .probe i x => ([1, BitVec.ofNat 8 i.val], probeBytes x)
  | .block i x => ([2, BitVec.ofNat 8 (blockNumber i)], blockBytes x)

/-- The code of a bank role (11.2). -/
def BankRole.code : BankRole → Byte
  | .active => 0
  | .shadow => 1

/-- The data of an IDENTIFY answer: "NK2412", the revision, the port and the capacities (R172). -/
def identityBytes (p : Port) : List Byte :=
  [0x4E, 0x4B, 0x32, 0x34, 0x31, 0x32, 1, BitVec.ofNat 8 p.val, 24, 3, 64] ++ leBytes 2 Config.slotCount ++
    leBytes 1 Config.pageCount ++ leBytes 2 Config.queueDepth ++ [8, 32]

/-- The data of a STATUS answer (R173). -/
def Status.bytes (x : Status) : List Byte :=
  [x.runState.code] ++ leBytes 2 x.runNumber.toNat ++ leBytes 4 x.stepNo.toNat ++ leBytes 4 x.position.toNat ++
    [flagByte x.doubtful] ++ leBytes 4 x.speed ++ [x.direction.code] ++ leBytes 6 (BitVec.ofInt 48 x.lag).toNat ++
    [optionCode (x.holder.map Fin.val), x.commit.code, BitVec.ofNat 8 x.activeIx.val] ++ leBytes 2 x.epoch.toNat ++
    leBytes 4 x.signature.toNat ++ leBytes 2 x.freeSlots ++ leBytes 1 x.freePages ++ leBytes 1 x.waiting ++
    leBytes 2 x.depth ++ [flagByte x.gapOpen] ++ x.holds.toList.map (fun h => h.setWidth 8) ++
    x.coupling.toList.map CouplingState.code

/-- The data of a DONE answer. -/
def DoneData.bytes : DoneData → List Byte
  | .nothing => []
  | .runNumber n => leBytes 2 n.toNat
  | .planEntry role item activeIx epoch commit =>
    [role.code] ++ item.data.1 ++ [BitVec.ofNat 8 activeIx.val] ++ leBytes 2 epoch.toNat ++ [commit.code] ++ item.data.2
  | .identity p => identityBytes p
  | .status x => x.bytes

/-- The data of a reply after the three bytes of every RESPONSE. -/
def Reply.data : Reply → List Byte
  | .done d => d.bytes
  | .pending f => leBytes 4 f.cycleA ++ leBytes 4 f.cycleB ++ leBytes 4 f.signature.toNat
  | .refused r => r.data

/-! ## Records (11.4) -/

/-- The code of a record kind. -/
def Body.kindCode : Body → Byte
  | .shot _ => 0
  | .skip _ _ => 1
  | .mark _ _ _ => 2
  | .coupling _ _ _ => 3
  | .run _ _ _ => 4
  | .plan _ _ _ _ => 5
  | .hold _ _ _ => 6
  | .odometer _ => 7
  | .noticesLost _ => 8

/-- The flags byte of a SHOT record. -/
def Shot.flags (x : Shot) : Byte :=
  BitVec.ofNat 8
    (x.grant.joined.toNat + 2 * x.grant.snapshot.toNat + 4 * x.grant.dropped.toNat + 8 * x.alarmed.toNat +
      16 * x.saturated.toNat)

/-- One gate result of a SHOT record. -/
def GateResult.bytes (g : GateResult) : List Byte :=
  [BitVec.ofNat 8 g.place.val, g.kind.code, g.status.code] ++ leBytes 2 g.peak ++ leBytes 2 g.time

/-- The excerpt of a SHOT record: its length, 0 when absent, and the samples. -/
def excerptBytes (x : Option (List Sample)) : List Byte :=
  match x with
  | none => leBytes 2 0
  | some samples => leBytes 2 samples.length ++ samples.flatMap (fun v => leBytes 2 v.val)

/-- The fields of a SHOT record after the common fields. -/
def Shot.bytes (x : Shot) (excerpt : Option (List Sample)) : List Byte :=
  leBytes 4 x.grant.stepNo.toNat ++ leBytes 4 x.grant.stepPos.toNat ++ leBytes 4 x.grant.firePos.toNat ++
    [BitVec.ofNat 8 x.grant.rail.code, BitVec.ofNat 8 x.grant.probe.val, BitVec.ofNat 8 (blockNumber x.grant.block),
      x.flags, x.coupling.code, BitVec.ofNat 8 x.gates.length] ++
    x.gates.flatMap GateResult.bytes ++ excerptBytes excerpt

/-- The cause and coverage of a SKIP record. -/
def Coverage.bytes : Coverage → List Byte
  | .wholeSteps => [0] ++ leBytes 2 0
  | .probeSet x => [1] ++ leBytes 2 x.toNat

/-- The code of a marker (11.2). -/
def markerCode : Marker → Byte
  | .m0 => 0
  | .m1 => 1

/-- The code of a marker action (11.2). -/
def MarkerAction.code : MarkerAction → Byte
  | .mark => 0
  | .load => 1

/-- The code of a RUN event. -/
def RunEvent.code : RunEvent → Byte
  | .start => 0
  | .completed => 1
  | .stopped => 2

/-- The code of a HOLD change. -/
def HoldChange.code : HoldChange → Byte
  | .held => 0
  | .released => 1

/-- The fields of a record's kind, after the common fields. -/
def Body.bytes (excerpt : Option (List Sample)) : Body → List Byte
  | .shot x => x.bytes excerpt
  | .skip rail span =>
    [BitVec.ofNat 8 rail.code] ++ leBytes 4 span.first.toNat ++ leBytes 4 span.last.toNat ++ span.cover.bytes
  | .mark m action stepNo => [markerCode m, action.code] ++ leBytes 4 stepNo.toNat
  | .coupling probe new stepNo => [BitVec.ofNat 8 probe.val, new.code] ++ leBytes 4 stepNo.toNat
  | .run event label last => [event.code] ++ leBytes 2 label.toNat ++ leBytes 4 last.toNat
  | .plan newEpoch signature active committer =>
    leBytes 2 newEpoch.toNat ++ leBytes 4 signature.toNat ++
      [BitVec.ofNat 8 active.val, BitVec.ofNat 8 committer.val]
  | .hold probe change port => [BitVec.ofNat 8 probe.val, change.code, BitVec.ofNat 8 port.val]
  | .odometer stepNo => [0] ++ leBytes 4 stepNo.toNat
  | .noticesLost count => leBytes 4 count.toNat

/-- The payload of a RECORD frame: the common fields, then those of the kind (R177). -/
def recordPayload (seq : BitVec 32) (r : Rec) (excerpt : Option (List Sample)) : List Byte :=
  leBytes 4 seq.toNat ++ leBytes 2 r.run.toNat ++ leBytes 2 r.epoch.toNat ++ [r.body.kindCode] ++
    leBytes 4 r.position.toNat ++ [flagByte r.doubtful] ++ r.body.bytes excerpt

/-! ## Frames (11.1) -/

/-- The kind of a frame sent by the part. -/
def TxFrame.kindByte : TxFrame → Byte
  | .response _ _ _ => 0x81
  | .record _ _ _ _ => 0x82
  | .gap _ _ => 0x83
  | .endTake _ _ _ _ => 0x84

/-- The tag of a frame sent by the part: that of the request answered. -/
def TxFrame.tag : TxFrame → Byte
  | .response tag _ _ => tag
  | .record tag _ _ _ => tag
  | .gap tag _ => tag
  | .endTake tag _ _ _ => tag

/-- The payload of a frame sent by the part (R176, R177). -/
def TxFrame.payload : TxFrame → List Byte
  | .response _ kind reply => [kind, reply.outcomeCode, reply.reasonCode] ++ reply.data
  | .record _ seq r excerpt => recordPayload seq r excerpt
  | .gap _ g => leBytes 4 g.count.toNat ++ leBytes 4 g.first.toNat ++ leBytes 4 g.last.toNat
  | .endTake _ entries depth gapOpen => leBytes 1 entries ++ leBytes 2 depth ++ [flagByte gapOpen]

/-- The part of a frame that its check covers: the length, the number of characters that follow it, then the kind, the
tag and the payload (R174). -/
def TxFrame.checked (f : TxFrame) : List Byte :=
  leBytes 2 (f.payload.length + 4) ++ [f.kindByte, f.tag] ++ f.payload

/-- The characters of a frame sent by the part (11.1). -/
def TxFrame.bytes (f : TxFrame) : List Byte := [0xA5] ++ f.checked ++ checkBytes f.checked

/-- The frame of a sending. -/
def Sending.frame : Sending → TxFrame
  | .refusal f => f
  | .answer f => f
  | .entry f => f

/-- The characters of the frame being sent on a port, none while its transmit side is idle (R167). -/
def State.wire (s : State) (p : Port) : Option (List Byte) := (s.hub.ctl p).sending.map (fun x => x.frame.bytes)

end Sys2Proof.Machine
end

