-- ==== Sys2Proof/Machine/RequestFrames.lean ====
section
/-! DEFINITION. The characters of request frames as a client sends them (11.1, 11.2): the port, tag, kind and payload of
every command that is a request, and the frame around them. -/

namespace Sys2Proof.Machine

/-- A request: the port it is sent on, its tag, its kind and its payload (11.2). -/
structure Request where
  port : Port
  tag : Byte
  kind : Byte
  payload : List Byte
  deriving DecidableEq, Repr

/-- The request that a command is, with its payload fields in the order of table 11.2; `none` for a command that is no
request frame. -/
def requestOf : Instr → Option Request
  | .identify p tag => some ⟨p, tag, 0x01, []⟩
  | .readStatus p tag => some ⟨p, tag, 0x02, []⟩
  | .configurePort p tag hold threshold => some ⟨p, tag, 0x03, leBytes 2 hold.toNat ++ leBytes 2 threshold.toNat⟩
  | .subscribe p tag entry matchVal mask enabled => some ⟨p, tag, 0x04, [entry, matchVal, mask, enabled]⟩
  | .general p tag flag => some ⟨p, tag, 0x05, [flag]⟩
  | .take p tag count => some ⟨p, tag, 0x06, [count]⟩
  | .snapshot p tag probe => some ⟨p, tag, 0x07, [probe]⟩
  | .cancelSnapshot p tag => some ⟨p, tag, 0x08, []⟩
  | .readPlanEntry p tag role item index => some ⟨p, tag, 0x09, [role, item, index]⟩
  | .claimEdit p tag => some ⟨p, tag, 0x0A, []⟩
  | .startRun p tag limit label => some ⟨p, tag, 0x0B, leBytes 3 limit.toNat ++ leBytes 2 label.toNat⟩
  | .stopRun p tag => some ⟨p, tag, 0x0C, []⟩
  | .holdProbe p tag probe => some ⟨p, tag, 0x0D, [probe]⟩
  | .releaseProbe p tag probe => some ⟨p, tag, 0x0E, [probe]⟩
  | .releaseEdit p tag => some ⟨p, tag, 0x10, []⟩
  | .writeStepSettings p tag source pitch period priority headA headB =>
    some ⟨p, tag, 0x11, [source] ++ leBytes 2 pitch.toNat ++ leBytes 4 period.toNat ++ [priority, headA, headB]⟩
  | .writeProbe p tag probe level pulseWidth gain window settle lossRun recoveryRun =>
    some ⟨p, tag, 0x12,
      [probe, level] ++ leBytes 2 pulseWidth.toNat ++ [gain] ++ leBytes 2 window.toNat ++ leBytes 2 settle.toNat ++
        [lossRun, recoveryRun]⟩
  | .writeGate p tag probe place occupied kind origin start width threshold =>
    some ⟨p, tag, 0x13,
      [probe, place, occupied, kind, origin] ++ leBytes 2 start.toNat ++ leBytes 2 width.toNat ++
        leBytes 2 threshold.toNat⟩
  | .writeBlock p tag block inUse probe decimation phase join report interval lengthCode next =>
    some ⟨p, tag, 0x14, [block, inUse, probe, decimation, phase, join, report, interval, lengthCode, next]⟩
  | .commit p tag => some ⟨p, tag, 0x15, []⟩
  | .abandon p tag => some ⟨p, tag, 0x16, []⟩
  | .setScaler p tag num den => some ⟨p, tag, 0x17, leBytes 2 num.toNat ++ leBytes 2 den.toNat⟩
  | .setPosition p tag position => some ⟨p, tag, 0x18, leBytes 4 position.toNat⟩
  | .setMarker p tag marker enabled edge lockout action load =>
    some ⟨p, tag, 0x19, [marker, enabled, edge] ++ leBytes 2 lockout.toNat ++ [action] ++ leBytes 4 load.toNat⟩
  | .unknownRequest p tag kind => some ⟨p, tag, kind, []⟩
  | .busyRefusal _ _ _ => none
  | .hardwareReset => none
  | .resetRelease _ _ _ _ _ => none
  | .encoderTransition _ _ => none
  | .speedWindowEnd => none
  | .markerEdge _ _ => none
  | .stepTimerExpiry => none
  | .channelWindowEnd _ _ _ => none
  | .channelSettleEnd _ => none
  | .shadowCopyCompletion => none
  | .editIdleTimerExpiry => none
  | .heldTakeExpiry _ => none
  | .presentAsserted _ => none
  | .portReset _ => none
  | .frameError _ _ => none
  | .interCharacterGapTimeout _ => none
  | .frameSent _ => none

/-- The part of a request frame that its check covers (R174): the length, the kind, the tag and the payload. -/
def Request.checked (r : Request) : List Byte :=
  [BitVec.ofNat 8 (r.payload.length + 4), r.kind, r.tag] ++ r.payload

/-- The characters of a request frame (11.1). -/
def Request.chars (r : Request) : List Byte := [0xA5] ++ r.checked ++ checkBytes r.checked

end Sys2Proof.Machine
end

