-- ==== Sys2Proof/Safety.lean ====
section
/-! DEFINITION. What the statements speak of: when a port takes a request and how it is answered, and what holds of every
state that the part can reach. -/

namespace Sys2Proof.Machine

/-! ## Requests and answers -/

/-- A port takes the next complete frame as a request: READY, or HELD_TAKE, which the frame ends (R166, R170). -/
def State.takesOn (s : State) (p : Port) : Prop :=
  s.resetLow = false ∧ ((s.hub.ctl p).state = .ready ∨ (s.hub.ctl p).state = .heldTake)

/-- A transmit side that is idle takes the oldest refusal waiting, else the next frame of the answer (R167). -/
def PortCtl.nextFrame (c : PortCtl) : PortCtl :=
  match c.sending with
  | some _ => c
  | none =>
    match c.refusals with
    | f :: rest => { c with refusals := rest, sending := some (.refusal f) }
    | [] =>
      match c.answers with
      | f :: rest => { c with answers := rest, sending := some (.answer f) }
      | [] => c

/-- A held TAKE ended without an entry: the timer stops, END with 0 entries, depth 0 and no gap is the next frame of the
answer, and the port is in the state given (R170). -/
def PortCtl.endHeld (c : PortCtl) (next : PortState) : PortCtl :=
  match c.take with
  | some j =>
    PortCtl.nextFrame
      { c with
        state := next
        heldTimer := none
        take := none
        answers := c.answers ++ [.endTake j.tag 0 0 false] }
  | none => { c with state := next, heldTimer := none }

/-- A Port Controller while it carries out the request it has taken: the receive buffer is empty, and a TAKE that was
held has been ended (R166, R170; log 10). -/
def PortCtl.taken (c : PortCtl) : PortCtl :=
  if c.state = .heldTake then { c with rx := [] }.endHeld .ready else { c with rx := [] }

/-- A Port Controller that has taken a request and answers it with a frame: it is ANSWERING, and the frame follows the
frames that wait (R166, R167). -/
def PortCtl.answered (c : PortCtl) (f : TxFrame) : PortCtl :=
  PortCtl.nextFrame { c.taken with state := .answering, answers := c.taken.answers ++ [f] }

/-- A Port Controller that forms a BUSY or FRAME_ERROR refusal: the receive buffer is empty and the refusal joins the
refusal list, from which an idle transmit side takes the oldest, or is discarded when 4 wait; state, answer and timer
are not disturbed (R165 to R167). -/
def PortCtl.refused (c : PortCtl) (f : TxFrame) : PortCtl :=
  if c.refusals.length < Config.refusalDepth then
    PortCtl.nextFrame { c with rx := [], refusals := c.refusals ++ [f] }
  else { c with rx := [] }

/-- `t` is `s` but for the Port Controller of `p`, which has taken a request and answers it with the frame `f`
(R166). -/
def State.answeredBy (s : State) (p : Port) (f : TxFrame) (t : State) : Prop :=
  t = s.withHub (s.hub.setCtl p ((s.hub.ctl p).answered f))

/-- `t` is `s` but for the Port Controller of `p`, which has formed the refusal `f` (R165 to R167). -/
def State.refusedBy (s : State) (p : Port) (f : TxFrame) (t : State) : Prop :=
  t = s.withHub (s.hub.setCtl p ((s.hub.ctl p).refused f))

/-- The requests that need the edit right (R24). -/
def needsRight (kind : Byte) : Bool :=
  [0x10#8, 0x11#8, 0x12#8, 0x13#8, 0x14#8, 0x15#8, 0x16#8, 0x17#8, 0x18#8, 0x19#8].contains kind

/-- Position n, counted from 1, of the tests of a request's payload fields is the first that is not passed (R175). -/
def firstOutside (n : Nat) (inside : List Bool) : Prop :=
  1 ≤ n ∧ inside[n - 1]? = some false ∧ ∀ m < n - 1, inside[m]? = some true

/-! ## Ranges (R15, R43) -/

/-- The step settings lie within their ranges. -/
def StepSettings.ranged (x : StepSettings) : Prop :=
  4 ≤ x.pitch ∧ x.pitch ≤ 400 ∧ 100 ≤ x.period ∧ x.period ≤ 100000

/-- The probe fields lie within their ranges. -/
def ProbeFields.ranged (x : ProbeFields) : Prop :=
  (1 ≤ x.level ∧ x.level ≤ 8) ∧ (50 ≤ x.pulseWidth ∧ x.pulseWidth ≤ 500) ∧ x.gain ≤ 160 ∧
    (200 ≤ x.window ∧ x.window ≤ 4000) ∧ x.settle ≤ 500 ∧ (1 ≤ x.lossRun ∧ x.lossRun ≤ 15) ∧
    (1 ≤ x.recoveryRun ∧ x.recoveryRun ≤ 15)

/-- A gate lies within its ranges. -/
def Gate.ranged (g : Gate) : Prop :=
  g.start ≤ 3999 ∧ (1 ≤ g.width ∧ g.width ≤ 4000) ∧ (1 ≤ g.threshold ∧ g.threshold ≤ 1023)

/-- A probe entry lies within its ranges. -/
def ProbeEntry.ranged (e : ProbeEntry) : Prop :=
  e.fields.ranged ∧ ∀ i : Place, ∀ g, e.gates[i] = some g → g.ranged

/-- A shot block lies within its ranges. -/
def Block.ranged (x : Block) : Prop :=
  (1 ≤ x.decimation ∧ x.decimation ≤ 16) ∧ x.phase ≤ 15 ∧ x.interval ≤ 255

/-- A bank holds every field within its stored range (R15). -/
def Bank.ranged (b : Bank) : Prop :=
  b.settings.ranged ∧ (∀ p : ProbeNo, (b.probe p).ranged) ∧ ∀ i : BlockIx, (b.block i).ranged

/-- Both banks hold every field within its stored range (R15). -/
def State.banksRanged (s : State) : Prop := s.plan.bank0.ranged ∧ s.plan.bank1.ranged

/-- A marker's lockout and its counter are 0 to 65,535 (R43). -/
def MarkerUnit.ranged (m : MarkerUnit) : Prop := m.lockout ≤ 65535 ∧ m.counter ≤ 65535

/-- The scaler and its remainder, and the markers, lie within their ranges (R43). -/
def State.odoRanged (s : State) : Prop :=
  (1 ≤ s.odo.num ∧ s.odo.num ≤ 4096) ∧ (1 ≤ s.odo.den ∧ s.odo.den ≤ 4096) ∧ s.odo.num ≤ 8 * s.odo.den ∧
    s.odo.rem < s.odo.den ∧ s.odo.m0.ranged ∧ s.odo.m1.ranged

/-- The frontier is at least 0 and at least the displacement: the lag is never negative (R55, R57). -/
def State.frontierLeads (s : State) : Prop :=
  0 ≤ s.gen.frontier.toInt ∧ s.gen.disp.toInt ≤ s.gen.frontier.toInt

/-! ## The rails -/

/-- A rail that asks for the channels of a group: REQUESTING in the step `st` with the pending step given, its request
for the group's channels placed (R67, R69). -/
def State.asking (s : State) (r : Rail) (st : Step) (pendingStep : Option Step) (g : List BlockIx × Link) : State :=
  { s.setSeq r
      { s.seq r with
        state := .requesting, current := some st, waiting := pendingStep, group := g.1, walk := g.2 } with
    arb := s.arb.setReq r (some g.1.length) }

/-- A rail between cycles: WAITING with no pending step (R64, R75). -/
def State.resting (s : State) (r : Rail) : State :=
  s.setSeq r { s.seq r with state := .waiting, current := none, waiting := none, group := [], walk := none }

/-- A step's boundary is reached and its step not yet issued, which happens only upon a swap (R60). -/
def State.boundaryReached (s : State) : Prop :=
  s.gen.state = .issuing ∧ s.gen.source ≠ .timed ∧ (s.gen.nextBoundary : Int) ≤ s.gen.frontier.toInt

/-- The hub after the open skip run of a rail, if there is one, has been closed into its SKIP record (R80). -/
def State.skipHanded (s : State) (r : Rail) (h : Hub) : Hub :=
  match (s.seq r).skip with
  | none => h
  | some run => h.hand (s.mkRec (.skip r run))

/-! ## The plan -/

/-- The signature held is that of the active bank, which passes the commit check; while a commit is pending, the shadow
bank passes it too and its signature is the pending one (R1, R13, R36, R38). -/
def State.activeChecked (s : State) : Prop :=
  s.plan.signature = signatureOf s.bank ∧ (∃ f, checkBank s.bank = .ok f) ∧
    (s.plan.commit = .pending →
      ∃ f, checkBank s.plan.shadowBank = .ok f ∧ s.plan.pendingSig = some f.signature)

/-- The fault kind of a gate place, if it is occupied and its gate fails a condition of R18. -/
def Bank.gateFaultAt (b : Bank) (p : ProbeNo) (i : Place) : Option FaultKind :=
  ((b.probe p).gates[i]).bind (gateFault (b.probe p) i)

/-- No gate place and no block in use has a fault of its own: phases 2 and 3 of R17 pass. -/
def Bank.entriesPass (b : Bank) : Prop :=
  (∀ p i, b.gateFaultAt p i = none) ∧
    ∀ i : BlockIx, (b.block i).inUse = true → (b.block i).phase < (b.block i).decimation

/-- The link that follows the blocks reached in a walk of a rail's chain, last reached first (R13, R19). -/
def Bank.linkAfter (b : Bank) (r : Rail) : List BlockIx → Link
  | [] => b.head r
  | i :: _ => (b.block i).next

/-- Whether the blocks listed, last reached first, are those reached in a walk of a rail's chain that has met no fault;
`taken` holds the blocks of the chain walked before (R19). -/
def Bank.walked (b : Bank) (r : Rail) (taken : List BlockIx) : List BlockIx → Prop
  | [] => True
  | i :: before =>
    b.walked r taken before ∧ b.linkAfter r before = some i ∧ blockFault b r taken before i = none

/-! ## The run -/

/-- Run state, generator state and sequencer states agree, and a rail that is OFF or WAITING has no current step (R64,
R152). -/
def State.runAgrees (s : State) : Prop :=
  (s.run.state = .idle ↔ s.gen.state = .off) ∧ (s.run.state = .running ↔ s.gen.state = .issuing) ∧
    (s.run.state = .finishing ↔ s.gen.state = .halted) ∧
    (∀ r, (s.seq r).state = .off ↔ s.run.state = .idle) ∧
    ∀ r, (s.seq r).state = .off ∨ (s.seq r).state = .waiting → (s.seq r).current = none

/-- The spray lines stand as their condition says (R118). -/
def State.sprayFollows (s : State) : Prop := s.coup.sprayA = s.sprayDue .a ∧ s.coup.sprayB = s.sprayDue .b

/-- The runs of a probe: below 15 when counting, 0 in the states that do not count them (R111 to R114). -/
def ProbeCoupling.ranged (x : ProbeCoupling) : Prop :=
  x.misses ≤ 14 ∧ x.recoveries ≤ 14 ∧ (x.state ≠ .doubt → x.misses = 0) ∧ (x.state ≠ .uncoupled → x.recoveries = 0)

/-- The runs of every probe lie within their ranges (R111). -/
def State.couplingRanged (s : State) : Prop := ∀ p : ProbeNo, (s.coup.probes[p]).ranged

/-! ## The pool and the ports -/

/-- The pool is in its canonical form, the pending list has at most 8 records, while it holds one no slot is FREE, and
the pages attached to slots are pages 0 to 47, none attached to two slots (R119, R123, R127). -/
def State.poolSound (s : State) : Prop :=
  s.hub.pool.wf = true ∧ s.hub.pool.waiting.length ≤ Config.pendingListDepth ∧
    (s.hub.pool.waiting = [] ∨ s.hub.pool.firstFreeSlot = none) ∧ s.hub.pool.usedPages.Nodup ∧
    ∀ n ∈ s.hub.pool.usedPages, n < Config.pageCount

/-- A port: its queue, refusal list, hold time and threshold within their ranges; in ABSENT everything at its reset
value; in HELD_TAKE a TAKE held over an empty queue without a gap (R136, R138, R164, R169). -/
def PortUnit.sound (u : PortUnit) : Prop :=
  u.dist.queue.length ≤ Config.queueDepth ∧ u.ctl.refusals.length ≤ Config.refusalDepth ∧ u.ctl.holdTime ≤ 2000 ∧
    (1 ≤ u.dist.threshold ∧ u.dist.threshold ≤ 256) ∧ (u.ctl.state = .absent → u = PortUnit.reset) ∧
    (u.ctl.state = .heldTake → u.ctl.take.isSome ∧ u.dist.queue = [] ∧ u.dist.gap = none)

/-- Every port is sound. -/
def State.portsSound (s : State) : Prop := ∀ p : Port, (s.hub.ports[p]).sound

/-- How many port queues hold a reference to the record of a slot. -/
def Hub.holders (h : Hub) (n : Nat) : Nat := allPorts.countP (fun q => (h.dist q).queue.contains (.ref n))

/-- A slot against the queues: a FREE or ASSEMBLING slot is referenced by none, a QUEUED slot holds a numbered
record and its count is the number of queues that hold a reference (R120, R121). -/
def Hub.slotAgrees (h : Hub) (n : Nat) : Prop :=
  match h.pool.slot n with
  | none => h.holders n = 0
  | some x =>
    match x.phase with
    | .assembling => x.refs = 0 ∧ h.holders n = 0
    | .queued => x.refs = h.holders n ∧ 1 ≤ x.refs ∧ ∃ seq r, x.content = .record seq r

/-- A LISTENING channel is bound to an ASSEMBLING slot that holds its shot, and to no other channel's (R87, R130). -/
def State.chansBound (s : State) : Prop :=
  (∀ c : Chan, s.chans[c].phase = .listening →
    ∃ b x g rule, s.chans[c].binding = some b ∧ s.hub.pool.slot b.slot = some x ∧ x.phase = .assembling ∧
      x.content = .shot g rule) ∧
  ∀ c d : Chan, s.chans[c].phase = .listening → s.chans[d].phase = .listening → c ≠ d →
    ∀ b e, s.chans[c].binding = some b → s.chans[d].binding = some e → b.slot ≠ e.slot

/-- The reference counts agree with the queues, and no queue holds two references to one record (R121, R141). -/
def State.refsAgree (s : State) : Prop :=
  s.hub.pool.wf = true ∧ (∀ n, s.hub.slotAgrees n) ∧ (∀ q n, (s.hub.dist q).queue.count (.ref n) ≤ 1) ∧ s.chansBound

/-- Every attention line stands as its condition says (R150). -/
def State.attentionFollows (s : State) : Prop :=
  ∀ q, (s.hub.dist q).attention = attentionOf s.hub.pool (s.hub.dist q)

end Sys2Proof.Machine
end

