-- ==== Sys2Proof/Certificates/Slice0/Obligations.lean ====
section
/-! DEFINITION. The statements for the provers. -/

open Sys2Proof Sys2Proof.Machine

/-! ## The step -/

/-- A step runs the command at the front of the queue on the state with the queue's rest; with an empty queue the block
idles, which is the model's choice (log 11). -/
def Obligations.StepRunsTheFrontCommand : Prop :=
  (∀ (s : State) (c : Instr) (rest : List Instr), s.pending = c :: rest →
    step s = exec c { s with pending := rest }) ∧
  ∀ s : State, s.pending = [] → step s = .next s

/-- Every command, in every state, answers a next state and leaves the queue of commands as it is; the queue is the
model's own (log 12). -/
def Obligations.EveryCommandGoesOn : Prop :=
  ∀ (c : Instr) (s : State), ∃ t, exec c s = .next t ∧ t.pending = s.pending

/-! ## Hardware reset -/

/-- HARDWARE_RESET gives every block its hardware-reset values, the empty plan of the table in both banks, which
passes the commit check with cycle times of 0 and its own signature. RESET is low after it, the model's DEDUCED reading
(log 13); the queue of commands and the counter of free values, which are the model's own, are kept (the model's choice,
log 26). -/
def Obligations.HardwareResetSetsEveryBlock : Prop :=
  emptyPlan.settings = { source := .forward, pitch := 12, period := 1000, priority := .fixed, headA := none,
                         headB := none } ∧
  (∀ p, emptyPlan.probe p = { fields := { level := 1, pulseWidth := 100, gain := 0, window := 200, settle := 0,
                                          lossRun := 3, recoveryRun := 3 }, gates := Vector.replicate 4 none }) ∧
  (∀ i, emptyPlan.block i = { inUse := false, probe := 0, decimation := 1, phase := 0, join := false,
                              report := .always, interval := 0, excerptLen := .l64, next := none }) ∧
  checkBank emptyPlan = .ok { cycleA := 0, cycleB := 0, signature := signatureOf emptyPlan } ∧
  ∀ s : State, ∃ t, exec .hardwareReset s = .next t ∧ t.resetLow = true ∧
    t.plan = { bank0 := emptyPlan, bank1 := emptyPlan, activeIx := 0, epoch := 0, signature := signatureOf emptyPlan,
               commit := .none, pendingSig := none, committer := none, holder := none, idleTimer := none } ∧
    (t.odo.num = 1 ∧ t.odo.den = 1 ∧ t.odo.rem = 0 ∧ t.odo.position = 0 ∧ t.odo.doubtful = false ∧
      t.odo.tally = 0 ∧ t.odo.speed = 0 ∧ t.odo.direction = .still) ∧
    (∀ m, (t.odo.marker m).enabled = false ∧ (t.odo.marker m).edge = .rising ∧ (t.odo.marker m).lockout = 0 ∧
      (t.odo.marker m).action = .mark ∧ (t.odo.marker m).load = 0 ∧ (t.odo.marker m).counter = 65535) ∧
    t.gen = { state := .off, source := .forward, disp := 0, frontier := 0, lastBoundary := 0, nextBoundary := 0,
              stepNo := 0, timer := none } ∧
    (∀ r, t.seq r = { state := .off, current := none, waiting := none, walk := none, group := [], windows := 0,
                      fired := Vector.replicate 64 0, skip := none }) ∧
    (∀ c : Chan, t.chans[c].phase = .free ∧ t.chans[c].binding = none ∧ t.chans[c].fe = none ∧
      t.chans[c].eval = { gates := [], crossing := none, excerpt := none }) ∧
    t.arb = { reqA := none, reqB := none, pointer := .a } ∧
    (∀ p : ProbeNo, t.coup.probes[p] = { state := .unknown, misses := 0, recoveries := 0 }) ∧
    (t.coup.sprayA = false ∧ t.coup.sprayB = false) ∧
    t.hub.pool = { slots := [], waiting := [], seq := 0, lost := 0 } ∧
    (∀ p, t.hub.ctl p = { state := .absent, rx := [], refusals := [], answers := [], take := none, sending := none,
                          holdTime := 0, heldTimer := none }) ∧
    (∀ p, t.hub.dist p = { subs := Vector.replicate 8 { enabled := false, matchVal := 0, mask := 0 },
                           general := false, queue := [], gap := none, threshold := 1, snap := .none,
                           attention := false }) ∧
    t.run = { state := .idle, number := 0, label := 0, limit := 0, holds := Vector.replicate 24 0 } ∧
    t.freeCount = s.freeCount ∧ t.pending = s.pending

/-- RESET_RELEASE samples the encoder lines, the marker inputs and the present lines, and PRESENT_ASSERTED takes an
ABSENT port to READY and changes nothing on another (the model's choice for an event that cannot arise, log 6);
nothing else changes. -/
def Obligations.ReleaseAndPresentLines : Prop :=
  (∀ (s : State) (a b x y : Bool) (present : PortSet), s.resetLow = true →
    ∃ h : Hub, exec (.resetRelease a b x y present) s =
        .next { s with
          resetLow := false
          odo := { s.odo with lineA := a, lineB := b, m0 := { s.odo.m0 with level := x },
                              m1 := { s.odo.m1 with level := y } }
          hub := h } ∧
      h.pool = s.hub.pool ∧
      ∀ p : Port, h.dist p = s.hub.dist p ∧
        h.ctl p = if present.getLsbD p.val = true then { s.hub.ctl p with state := .ready } else s.hub.ctl p) ∧
  ∀ (s : State) (p : Port), s.resetLow = false →
    exec (.presentAsserted p) s =
      .next (if (s.hub.ctl p).state = .absent then
          s.withHub (s.hub.setCtl p { s.hub.ctl p with state := .ready }) else s)

/-! ## Odometer -/

/-- A valid count, to the pair (not B, A) for +1 or (B, not A) for −1, gives k ticks with N + r = k·D + r' (or r + k·D
= N + r' backwards), r' below D, and k is at most 8 while N is at most 8·D. The new pair and remainder are kept, the k
ticks of that sign are taken one after another, in a run as outside one, and then the markers' counters count, up to
65,535. Outside a run the position and the tally move by k and nothing else. -/
def Obligations.ValidCountsGiveTicks : Prop :=
  (∀ (plus : Bool) (s : State), State.ticks plus 0 s = s) ∧
  (∀ (plus : Bool) (n : Nat) (s : State), State.ticks plus (n + 1) s = State.ticks plus n (s.tick plus)) ∧
  ∀ (s : State) (a b plus : Bool), s.resetLow = false → s.odo.rem < s.odo.den →
    a = (if plus then !s.odo.lineB else s.odo.lineB) → b = (if plus then s.odo.lineA else !s.odo.lineA) →
    ∃ (k r : Nat) (t : State), r < s.odo.den ∧
      (if plus then r + k * s.odo.den = s.odo.rem + s.odo.num else r + s.odo.num = s.odo.rem + k * s.odo.den) ∧
      (s.odo.num ≤ 8 * s.odo.den → k ≤ 8) ∧
      t = State.ticks plus k { s with odo := { s.odo with lineA := a, lineB := b, rem := r } } ∧
      exec (.encoderTransition a b) s =
        .next (State.endPool
          { t with
            odo :=
              { t.odo with
                m0 := { t.odo.m0 with counter := min (t.odo.m0.counter + 1) (max 65535 t.odo.m0.counter) }
                m1 := { t.odo.m1 with counter := min (t.odo.m1.counter + 1) (max 65535 t.odo.m1.counter) } } }) ∧
      (s.gen.state = .off →
        t =
          { s with
            odo :=
              { s.odo with
                lineA := a
                lineB := b
                rem := r
                position := if plus then s.odo.position + BitVec.ofNat 32 k else s.odo.position - BitVec.ofNat 32 k
                tally := if plus then s.odo.tally + k else s.odo.tally - k } })

/-- A transition at which both lines changed gives no count: the new pair is kept, the doubtful flag is set, and an
ODOMETER notice is handed to the pool. -/
def Obligations.EncoderFaultIsNoted : Prop :=
  ∀ s : State, s.resetLow = false →
    exec (.encoderTransition (!s.odo.lineA) (!s.odo.lineB)) s =
      .next (State.endPool (State.handRecord
        { s with odo := { s.odo with lineA := !s.odo.lineA, lineB := !s.odo.lineB, doubtful := true } }
        (.odometer (if s.run.state = .idle then 0 else s.gen.stepNo))))

/-- In ISSUING and HALTED a tick moves d by 1, against its sign under REVERSE, and F rises with d; in OFF it changes
neither. The position and the tally follow the tick in every state. -/
def Obligations.TickMovesTheFrontier : Prop :=
  ∀ (s : State) (plus : Bool),
    ((s.tick plus).odo =
      { s.odo with position := if plus then s.odo.position + 1 else s.odo.position - 1,
                   tally := if plus then s.odo.tally + 1 else s.odo.tally - 1 }) ∧
    (s.gen.state = .off → (s.tick plus).gen = s.gen) ∧
    ∀ x : Int, s.gen.state ≠ .off →
      x = s.gen.disp.toInt + (if s.gen.source = .reverse then (if plus then -1 else 1) else if plus then 1 else -1) →
      -(2 ^ 47) ≤ x → x < 2 ^ 47 →
      (s.tick plus).gen.disp.toInt = x ∧ (s.tick plus).gen.frontier.toInt = max s.gen.frontier.toInt x

/-- A tick that raises F to the next boundary issues a step: the step number rises by 1, L becomes the boundary and the
next boundary lies one pitch further, and the step, with the position after the tick, reaches both rails, a busy rail
without a pending step keeping it; at the limit the generator halts, the requests of the cycles it begins form a pass
(DEDUCED, log 7), and what follows a cycle's end takes place. That rail A handles the step first is the model's choice
(log 29). A tick that leaves F where it is changes the position and d alone (rollback). -/
def Obligations.StepsAreIssuedAtBoundaries : Prop :=
  (∀ (s : State) (plus : Bool), s.gen.state = .issuing → s.gen.source ≠ .timed → s.plan.commit ≠ .pending →
    s.gen.disp = s.gen.frontier → plus = decide (s.gen.source = .forward) →
    s.gen.frontier.toInt + 1 < 2 ^ 47 → s.gen.frontier.toInt + 1 = (s.gen.nextBoundary : Int) →
    (s.tick plus).gen.stepNo = s.gen.stepNo + 1 ∧ (s.tick plus).gen.lastBoundary = s.gen.nextBoundary ∧
      (s.tick plus).gen.nextBoundary = s.gen.nextBoundary + s.bank.settings.pitch ∧
      ∀ r, (s.seq r).state = .listening → (s.seq r).waiting = none → s.arb.req r = none →
        ((s.tick plus).seq r).waiting =
          some { no := s.gen.stepNo + 1, pos := if plus then s.odo.position + 1 else s.odo.position - 1 }) ∧
  (∀ (s : State) (plus : Bool), s.gen.state = .issuing → s.gen.source ≠ .timed → s.gen.disp = s.gen.frontier →
    plus = decide (s.gen.source = .forward) → s.gen.frontier.toInt + 1 < 2 ^ 47 →
    s.gen.frontier.toInt + 1 = (s.gen.nextBoundary : Int) →
    let pos := if plus then s.odo.position + 1 else s.odo.position - 1
    let st : Step := { no := s.gen.stepNo + 1, pos := pos }
    let moved :=
      { s with
        odo := { s.odo with position := pos, tally := if plus then s.odo.tally + 1 else s.odo.tally - 1 }
        gen :=
          { s.gen with
            disp := BitVec.ofInt 48 s.gen.nextBoundary
            frontier := BitVec.ofInt 48 s.gen.nextBoundary
            lastBoundary := s.gen.nextBoundary
            nextBoundary := s.gen.nextBoundary + s.bank.settings.pitch
            stepNo := st.no } }
    let u := (State.stepArrives (State.stepArrives moved .a st) .b st).haltAtLimit
    s.tick plus =
      State.afterCycles (if s.seqA.state = .waiting ∨ s.seqB.state = .waiting then u.pass else u)) ∧
  ∀ (s : State) (plus : Bool) (x : Int), s.gen.state ≠ .off →
    x = s.gen.disp.toInt + (if s.gen.source = .reverse then (if plus then -1 else 1) else if plus then 1 else -1) →
    -(2 ^ 47) ≤ x → x < 2 ^ 47 → x ≤ s.gen.frontier.toInt →
    s.tick plus =
      { s with
        odo := { s.odo with position := if plus then s.odo.position + 1 else s.odo.position - 1,
                            tally := if plus then s.odo.tally + 1 else s.odo.tally - 1 }
        gen := { s.gen with disp := BitVec.ofInt 48 x } }

/-- At the end of a speed window the speed takes the magnitude and the direction of the tally, and the tally returns to
0. -/
def Obligations.SpeedWindowTakesTheTally : Prop :=
  ∀ s : State, s.resetLow = false →
    exec .speedWindowEnd s =
      .next { s with
        odo := { s.odo with
          speed := s.odo.tally.natAbs
          direction := if 0 < s.odo.tally then .increasing else if s.odo.tally < 0 then .decreasing else .still
          tally := 0 } }

/-- A change of a marker's input updates its level; in the configured direction, with the marker enabled and its counter
at or above the lockout, it is accepted: the counter returns to 0, a LOAD sets the position and clears the flag, and a
MARK notice is handed to the pool. Otherwise nothing else changes. -/
def Obligations.MarkerEdgesAreAcceptedOrIgnored : Prop :=
  ∀ (s : State) (m : Marker) (level : Bool), s.resetLow = false →
    let x := s.odo.marker m
    let event := x.level ≠ level ∧ (x.edge = .rising ↔ level = true)
    (event ∧ x.enabled = true ∧ x.lockout ≤ x.counter →
      ∃ o : Odometer, o.marker m = { x with level := level, counter := 0 } ∧
        (∀ n, n ≠ m → o.marker n = s.odo.marker n) ∧
        (x.action = .load → o.position = x.load ∧ o.doubtful = false) ∧
        (x.action = .mark → o.position = s.odo.position ∧ o.doubtful = s.odo.doubtful) ∧
        { o with m0 := s.odo.m0, m1 := s.odo.m1, position := s.odo.position, doubtful := s.odo.doubtful } = s.odo ∧
        exec (.markerEdge m level) s =
          .next (State.endPool (State.handRecord { s with odo := o }
            (.mark m x.action (if s.run.state = .idle then 0 else s.gen.stepNo))))) ∧
    (¬ (event ∧ x.enabled = true ∧ x.lockout ≤ x.counter) →
      exec (.markerEdge m level) s = .next { s with odo := s.odo.setMarker m { x with level := level } })

/-! ## Step Generator -/

/-- With source TIMED in ISSUING an expiry of the running step timer issues the next step, with the position as it
stands: it reaches both rails, a busy rail without a pending step keeping it, and at the limit the generator halts; the
requests of the cycles it begins form a pass, what follows a cycle's end takes place, and while the generator goes on
issuing the timer restarts with the timed period of the bank then active. d, F and the odometer stand. That the restart
comes after a swap upon the same event is DEDUCED (log 20), and so is the pass (log 7); that rail A handles the step
first is the model's choice (log 29). Outside ISSUING or under another source the expiry changes nothing (the model's
choice for an event that cannot arise, log 6). -/
def Obligations.StepTimerIssuesSteps : Prop :=
  (∀ s : State, s.resetLow = false → s.gen.state = .issuing → s.gen.source = .timed → s.gen.timer.isSome →
    let st : Step := { no := s.gen.stepNo + 1, pos := s.odo.position }
    let u := (State.stepArrives (State.stepArrives { s with gen := { s.gen with stepNo := st.no } } .a st) .b
      st).haltAtLimit
    let v := State.afterCycles (if s.seqA.state = .waiting ∨ s.seqB.state = .waiting then u.pass else u)
    ∃ t : State,
      t = State.endPool
        (if v.gen.state = .issuing then { v with gen := { v.gen with timer := some v.bank.settings.period } } else v) ∧
      exec .stepTimerExpiry s = .next t ∧ t.gen.stepNo = s.gen.stepNo + 1 ∧ t.gen.disp = s.gen.disp ∧
      t.gen.frontier = s.gen.frontier ∧ t.odo = s.odo ∧
      (t.gen.state = .issuing → t.gen.timer = some t.bank.settings.period) ∧
      (t.gen.state ≠ .issuing → t.gen.timer = none) ∧
      ∀ r, (s.seq r).state = .listening → (s.seq r).waiting = none → s.arb.req r = none →
        (t.seq r).waiting = some st) ∧
  ∀ s : State, s.resetLow = false → ¬ (s.gen.state = .issuing ∧ s.gen.source = .timed) →
    exec .stepTimerExpiry s = .next s

/-! ## Rail sequencers -/

/-- A rail that is OFF does not take a step. A busy one keeps it as its pending step if there is none; else it is an
omission of the whole step, which joins the open skip run (same cause; its last step or one more) or closes it into a
SKIP record and opens a new one. A WAITING rail takes the step: from its chain head, groups are formed (a next block
with join set is the second) and those without a due block passed over; the first with one leaves the rail REQUESTING
as many channels as are due, and a chain that ends without one leaves it WAITING. A walk goes on in the same way after a
group; at the chain's end a pending step begins the next cycle upon the same event. -/
def Obligations.StepsAreTakenKeptOrMissed : Prop :=
  (∀ (s : State) (r : Rail) (st : Step), (s.seq r).state = .off → s.stepArrives r st = s) ∧
  (∀ (s : State) (r : Rail) (st : Step), (s.seq r).state = .requesting ∨ (s.seq r).state = .listening →
    (s.seq r).waiting = none → s.stepArrives r st = s.setSeq r { s.seq r with waiting := some st }) ∧
  (∀ (s : State) (r : Rail) (st old : Step), (s.seq r).state = .requesting ∨ (s.seq r).state = .listening →
    (s.seq r).waiting = some old → s.stepArrives r st = s.omission r st.no .wholeSteps) ∧
  (∀ (s : State) (r : Rail) (k : StepNo) (run : SkipRun), (s.seq r).skip = some run → run.cover = .wholeSteps →
    k.toNat = run.last.toNat ∨ k.toNat = run.last.toNat + 1 →
    s.omission r k .wholeSteps = s.setSeq r { s.seq r with skip := some { run with last := k } }) ∧
  (∀ (s : State) (r : Rail) (k : StepNo) (run : SkipRun) (x y : RailProbes), (s.seq r).skip = some run →
    run.cover = .probeSet x → k.toNat = run.last.toNat ∨ k.toNat = run.last.toNat + 1 →
    s.omission r k (.probeSet y) =
      s.setSeq r { s.seq r with skip := some { run with last := k, cover := .probeSet (x ||| y) } }) ∧
  (∀ (s : State) (r : Rail) (k : StepNo) (cover : Coverage), (s.seq r).skip = none →
    s.omission r k cover = s.setSeq r { s.seq r with skip := some { first := k, last := k, cover := cover } }) ∧
  (∀ (s : State) (r : Rail) (k : StepNo) (run : SkipRun) (cover : Coverage), (s.seq r).skip = some run →
    (¬ (k.toNat = run.last.toNat ∨ k.toNat = run.last.toNat + 1) ∨ run.cover.join cover = none) →
    s.omission r k cover =
      ((s.setSeq r { s.seq r with skip := none }).handRecord (.skip r run)).setSeq r
        { s.seq r with skip := some { first := k, last := k, cover := cover } }) ∧
  (∀ (b : Bank) (i : BlockIx), (b.block i).next = none → formGroup b i = ([i], none)) ∧
  (∀ (b : Bank) (i j : BlockIx), (b.block i).next = some j → (b.block j).join = false →
    formGroup b i = ([i], some j)) ∧
  (∀ (b : Bank) (i j : BlockIx), (b.block i).next = some j → (b.block j).join = true →
    formGroup b i = ([i, j], (b.block j).next)) ∧
  (∀ (b : Bank) (holds : Vector PortSet 24) (n : StepNo) (i : BlockIx),
    isDue b holds n i = true ↔
      n.toNat % (b.block i).decimation = (b.block i).phase ∧ holds[(b.block i).probe] = 0) ∧
  (∀ (s : State) (st : Step) (walk : Nat → Link) (k : Nat), k < 64 →
    (∀ n < k, ∃ i, walk n = some i ∧ (formGroup s.bank i).2 = walk (n + 1) ∧
      ∀ j ∈ (formGroup s.bank i).1, isDue s.bank s.run.holds st.no j = false) →
    (walk k = none → s.nextGroup st (walk 0) = ([], none)) ∧
    ∀ i, walk k = some i → (∃ j ∈ (formGroup s.bank i).1, isDue s.bank s.run.holds st.no j = true) →
      s.nextGroup st (walk 0) =
        ((formGroup s.bank i).1.filter (isDue s.bank s.run.holds st.no), (formGroup s.bank i).2)) ∧
  (∀ (s : State) (r : Rail) (st : Step), (s.seq r).state = .waiting → (s.seq r).waiting = none →
    let g := s.nextGroup st (s.bank.head r)
    (g.1 ≠ [] → s.stepArrives r st = s.asking r st none g) ∧ (g.1 = [] → s.stepArrives r st = s.resting r)) ∧
  ∀ (s : State) (r : Rail) (st : Step), (s.seq r).current = some st →
    let g := s.nextGroup st (s.seq r).walk
    (g.1 ≠ [] → s.walkOn r = s.asking r st (s.seq r).waiting g) ∧
    (g.1 = [] → (s.seq r).waiting = none → s.walkOn r = s.resting r) ∧
    ∀ next, g.1 = [] → (s.seq r).waiting = some next →
      let g' := s.nextGroup next (s.bank.head r)
      (g'.1 ≠ [] → s.walkOn r = s.asking r next none g') ∧ (g'.1 = [] → s.walkOn r = s.resting r)

/-- A considered request for k channels with k channels free and k + 16 slots FREE is granted. The open skip run is
closed into a SKIP record first. The rail is LISTENING with k windows and no request, its blocks' fired counts raised.
The k lowest free channels fire the group's blocks in order, each triggered once, driving its probe's settings and
bound to an ASSEMBLING slot with the fields of the grant, its Gate Evaluator set from the probe's entry. A shot of a
probe for which snapshot entries wait claims them; a claim or a whole multiple of the block's interval gives an excerpt
of its length and the lowest FREE page, or sets dropped. Nothing else changes. The count of trigger pulses is the
model's own (DESIGN CHOICE, log 14), and that the page is the lowest too (log 4). -/
def Obligations.GrantFiresTheGroup : Prop :=
  ∀ (s : State) (r : Rail) (st : Step) (k : Nat), s.hub.pool.wf = true → s.arb.req r = some k →
    (s.seq r).current = some st → (s.seq r).group.length = k → (s.seq r).group.Nodup → k ≤ s.freeChans.length →
    k + 16 ≤ s.hub.pool.freeSlots →
    ∃ t, s.consider r = (t, .granted) ∧ (t.seq r).state = .listening ∧ (t.seq r).windows = k ∧
      (t.seq r).skip = none ∧ (t.seq r).current = some st ∧ (t.seq r).waiting = (s.seq r).waiting ∧
      (t.seq r).group = (s.seq r).group ∧ (t.seq r).walk = (s.seq r).walk ∧ t.seq r.other = s.seq r.other ∧
      t.arb = s.arb.setReq r none ∧ t.plan = s.plan ∧ t.odo = s.odo ∧ t.gen = s.gen ∧ t.coup = s.coup ∧
      t.run = s.run ∧
      (∀ i : BlockIx, (t.seq r).fired[i] = if i ∈ (s.seq r).group then (s.seq r).fired[i] + 1 else (s.seq r).fired[i]) ∧
      (∀ c : Chan, c ∉ s.freeChans.take k → t.chans[c] = s.chans[c]) ∧
      ∃ ns : List Nat, ns.length = k ∧ ns.Nodup ∧ (∀ n ∈ ns, n < 1024 ∧ s.hub.pool.slot n = none) ∧
        (let blank : Slot := { phase := .assembling, refs := 0, content := .blank, page := none }
         let h := s.skipHanded r (s.hub.withPool (ns.foldl (fun p n => p.putSlot n blank) s.hub.pool))
         t.hub.pool.waiting = h.pool.waiting ∧ t.hub.pool.seq = h.pool.seq ∧ t.hub.pool.lost = h.pool.lost ∧
          (∀ m, m ∉ ns → t.hub.pool.slot m = h.pool.slot m) ∧
          ∀ q, t.hub.ctl q = h.ctl q ∧ t.hub.dist q = { h.dist q with snap := (t.hub.dist q).snap }) ∧
        (∀ q, (∀ i ∈ (s.seq r).group, (s.hub.dist q).snap ≠ .waiting (s.bank.block i).probe) →
          (t.hub.dist q).snap = (s.hub.dist q).snap) ∧
        ∀ (j : Nat) (i : BlockIx) (c : Chan) (n : Nat), (s.seq r).group[j]? = some i →
          s.freeChans[j]? = some c → ns[j]? = some n →
          let x := s.bank.block i
          let p := x.probe
          let e := s.bank.probe p
          let f := e.fields
          ∃ (slot : Slot) (g : ShotGrant) (wanted : Option Nat),
            wanted =
              (if g.snapshot = true then some (if x.interval = 0 then 512 else x.excerptLen.count)
                else if x.interval ≠ 0 ∧ (s.seq r).fired[i].toNat % x.interval = 0 then some x.excerptLen.count
                else none) ∧
            t.chans[c] =
              { phase := .listening
                binding :=
                  some { rail := r, block := i, probe := p, slot := n, window := some (5 * f.window), settle := none }
                eval := Evaluator.start e (if slot.page.isSome then wanted else none) (5 * f.window)
                fe := some { probe := p, level := f.level, pulseWidth := f.pulseWidth, gain := f.gain }
                triggers := s.chans[c].triggers + 1 } ∧
            t.hub.pool.slot n = some slot ∧ slot.phase = .assembling ∧ slot.refs = 0 ∧
            slot.content = .shot g x.report ∧ g.stepNo = st.no ∧ g.stepPos = st.pos ∧ g.firePos = s.odo.position ∧
            g.rail = r ∧ g.probe = p ∧ g.block = i ∧ g.joined = decide (k = 2) ∧
            g.dropped = (wanted.isSome && slot.page.isNone) ∧
            slot.page =
              (if wanted.isSome then
                ((List.range 48).find? (fun m => !(s.hub.pool.usedPages ++ (ns.take j).filterMap (fun n' =>
                    (t.hub.pool.slot n').bind (fun y => y.page.map (fun z => z.no)))).contains m)).map
                  (fun m => { no := m, samples := [] })
              else none) ∧
            (((s.seq r).group.map (fun i' => (s.bank.block i').probe)).Nodup →
              (g.snapshot = true ↔ ∃ q, (s.hub.dist q).snap = .waiting p) ∧
              ∀ q, (s.hub.dist q).snap = .waiting p → (t.hub.dist q).snap = .claimed p n)

/-- What an arbitration pass does. A rail without a request is passed by; a request without enough free channels goes
on waiting and changes nothing; one with enough channels but fewer than k + 16 FREE slots is refused: its group is
omitted with cause POOL and the group's probes, and only the omission, the group and the request change. The rail of
higher priority (A under FIXED, the pointer's under ROTATING) is considered first; while its request waits the other is
not considered, and otherwise it is. Rails refused then go on with their walks in the order of their refusals, the
request each places being considered in its turn; the pass takes at most 512 such turns, a bound of the model's (log
15). -/
def Obligations.PassesGrantWaitOrOmit : Prop :=
  (∀ (s : State) (r : Rail), s.arb.req r = none → s.consider r = (s, .noRequest)) ∧
  (∀ (s : State) (r : Rail) (st : Step) (k : Nat), s.arb.req r = some k → (s.seq r).current = some st →
    s.freeChans.length < k → s.consider r = (s, .waits)) ∧
  (∀ (s : State) (r : Rail) (st : Step) (k : Nat), s.arb.req r = some k → (s.seq r).current = some st →
    k ≤ s.freeChans.length → s.hub.pool.freeSlots < k + 16 →
    let probes := groupProbes s.bank (s.seq r).group
    let u := s.omission r st.no (.probeSet probes)
    s.consider r = ({ u.setSeq r { u.seq r with group := [] } with arb := s.arb.setReq r none }, .refused) ∧
      u.chans = s.chans ∧ (u.seq r).fired = (s.seq r).fired ∧ u.seq r.other = s.seq r.other ∧
      ∃ run x, (u.seq r).skip = some run ∧ run.last = st.no ∧ run.cover = .probeSet (x ||| probes)) ∧
  (∀ (b : Bank) (g : List BlockIx) (n : Nat), n < 12 →
    ((groupProbes b g).getLsbD n = true ↔ ∃ i ∈ g, (b.block i).probe.val % 12 = n)) ∧
  (∀ s : State, s.higherRail = match s.bank.settings.priority with | .fixed => .a | .rotating => s.arb.pointer) ∧
  (∀ s t : State, s.consider s.higherRail = (t, .waits) → s.pass = t) ∧
  (∀ (s t u : State) (v w : Verdict), s.consider s.higherRail = (t, v) → v ≠ .waits →
    t.consider s.higherRail.other = (u, w) →
    s.pass = State.afterRefusals 512
      ((if v = .refused then [s.higherRail] else []) ++ (if w = .refused then [s.higherRail.other] else [])) u) ∧
  (∀ (n : Nat) (s : State), State.afterRefusals n [] s = s) ∧
  ∀ (n : Nat) (r : Rail) (rest : List Rail) (s t : State) (v : Verdict), (s.walkOn r).consider r = (t, v) →
    State.afterRefusals (n + 1) (r :: rest) s =
      State.afterRefusals n (if v = .refused then rest ++ [r] else rest) t

/-! ## Capture channels -/

/-- The settle end of a SETTLING channel whose partner is still LISTENING or SETTLING leaves it HELD. Any other is the
group's settle end: the rail's channels return to FREE, ROTATING priority moves the pointer to the other rail, the group
is over, the walk goes on, a pass is taken, and what follows a cycle's end takes place. Where no request waits, no block
is due any more, no step is pending, no commit waits and the run goes on, the rail is WAITING and nothing else
changes. That the Gate Evaluators of the channels keep their values is DEDUCED (log 21). -/
def Obligations.SettleEndHoldsOrReleases : Prop :=
  (∀ (s : State) (c d : Chan) (b e : Binding), s.resetLow = false → s.chans[c].phase = .settling →
    s.chans[c].binding = some b → d ≠ c → s.chans[d].binding = some e → e.rail = b.rail →
    s.chans[d].phase = .listening ∨ s.chans[d].phase = .settling →
    exec (.channelSettleEnd c) s =
      .next (State.endPool
        (s.setChan c { s.chans[c] with phase := .held, binding := some { b with settle := none } }))) ∧
  ∀ (s : State) (c : Chan) (b : Binding), s.resetLow = false → s.chans[c].phase = .settling →
    s.chans[c].binding = some b →
    (∀ (d : Chan) (e : Binding), d ≠ c → s.chans[d].binding = some e → e.rail = b.rail →
      s.chans[d].phase ≠ .listening ∧ s.chans[d].phase ≠ .settling) →
    (∃ (chans : Vector Channel 3) (u : State),
      (∀ d : Chan, chans[d] =
        if s.chans[d].binding.map (fun x => x.rail) = some b.rail then
          { s.chans[d] with phase := .free, binding := none, fe := none } else s.chans[d]) ∧
      u =
        { s.setSeq b.rail { s.seq b.rail with group := [], windows := 0 } with
          chans := chans
          arb := { s.arb with
            pointer := if s.bank.settings.priority = .rotating then b.rail.other else s.arb.pointer } } ∧
      exec (.channelSettleEnd c) s = .next ((u.walkOn b.rail).pass.afterCycles).endPool) ∧
    ∀ st : Step, s.arb.reqA = none → s.arb.reqB = none → s.run.state = .running → s.plan.commit ≠ .pending →
      (s.seq b.rail).current = some st → (s.seq b.rail).waiting = none →
      (s.nextGroup st (s.seq b.rail).walk).1 = [] →
      ∃ t : State, exec (.channelSettleEnd c) s = .next t.endPool ∧
        t.seq b.rail = { s.seq b.rail with state := .waiting, current := none, walk := none, group := [], windows := 0 } ∧
        t.seq b.rail.other = s.seq b.rail.other ∧
        (∀ d : Chan, t.chans[d] =
          if s.chans[d].binding.map (fun x => x.rail) = some b.rail then
            { s.chans[d] with phase := .free, binding := none, fe := none } else s.chans[d]) ∧
        t.arb = { s.arb with
          pointer := if s.bank.settings.priority = .rotating then b.rail.other else s.arb.pointer } ∧
        t.plan = s.plan ∧ t.odo = s.odo ∧ t.gen = s.gen ∧ t.coup = s.coup ∧ t.hub = s.hub ∧ t.run = s.run

/-- The window end of a LISTENING channel. The Gate Evaluator takes the samples of the window its binding counts, which
the command carries (the model's choice, log 16); the channel is SETTLING with its settle timer running; the coupling
state of its probe, and of no other, is updated from the status of its COUPLING gate; the SHOT record of the slot is
handed on with its excerpt, or the slot is freed, as the report decision says; and the rail counts one window less. With
a settle time of 0 the settle end follows upon the same event; otherwise nothing else changes. -/
def Obligations.WindowEndCompletesTheShot : Prop :=
  ∀ (s : State) (c : Chan) (first : Sample) (rest : List Sample) (b : Binding) (n : Nat) (x : Slot) (g : ShotGrant)
    (rule : ReportRule), s.resetLow = false → s.chans[c].phase = .listening → s.chans[c].binding = some b →
    b.window = some n → s.hub.pool.slot b.slot = some x → x.content = .shot g rule →
    let e := s.chans[c].eval.run 0 (streamSamples n first rest)
    let f := (s.bank.probe b.probe).fields
    let settling : Channel :=
      { s.chans[c] with
        phase := .settling, binding := some { b with window := none, settle := some f.settle }, eval := e }
    let u := (s.setChan c settling).couple b.probe (couplingHit e.results) g.stepNo
    let changed := decide (s.coup.probes[b.probe].state ≠ u.coup.probes[b.probe].state)
    let h :=
      if reportDecision rule g e.results changed x.page.isSome = true then
        u.hub.report b.slot x (e.excerpt.map (fun a => a.samples)) (u.mkRec (.shot (u.shotOf b.probe g e.results)))
      else u.hub.discardShot b.slot
    let t := (u.withHub h).setSeq b.rail { s.seq b.rail with windows := (s.seq b.rail).windows - 1 }
    (f.settle = 0 → exec (.channelWindowEnd c first rest) s = exec (.channelSettleEnd c) t) ∧
      (f.settle ≠ 0 → exec (.channelWindowEnd c first rest) s = .next t.endPool) ∧
      t.endPool = t.withHub t.endPool.hub ∧
      t.chans[c] = settling ∧
      (∀ d, d ≠ c → t.chans[d] = s.chans[d]) ∧
      t.seq b.rail = { s.seq b.rail with windows := (s.seq b.rail).windows - 1 } ∧
      t.seq b.rail.other = s.seq b.rail.other ∧
      t.coup.probes[b.probe] =
        (match couplingHit e.results with
          | none => s.coup.probes[b.probe]
          | some true => (s.coup.probes[b.probe]).hit f.recoveryRun
          | some false => (s.coup.probes[b.probe]).miss f.lossRun) ∧
      (∀ p : ProbeNo, p ≠ b.probe → t.coup.probes[p] = s.coup.probes[p]) ∧
      t.plan = s.plan ∧ t.odo = s.odo ∧ t.gen = s.gen ∧ t.arb = s.arb ∧ t.run = s.run

/-! ## Gates, excerpts and coupling -/

/-- The result of a gate that covers the samples from `lo` up to but not including `hi`: its peak is the largest of
them, its peak time the first sample that gave it, and its status that of its kind and threshold. -/
def gatePeakIs (samples : List Sample) (g : Gate) (i : Place) (lo hi : Nat) (res : GateResult) : Prop :=
  res.place = i ∧ res.kind = g.kind ∧ lo ≤ res.time ∧ res.time < hi ∧
    (samples[res.time]?.map (fun v => v.val)) = some res.peak ∧
    (∀ k v, lo ≤ k → k < hi → samples[k]? = some v → v.val ≤ res.peak ∧ (k < res.time → v.val < res.peak)) ∧
    res.status =
      if g.kind = .loss then (if res.peak < g.threshold then .hit else .clear)
      else if g.threshold ≤ res.peak then .hit else .clear

/-- A PULSE gate whose samples lie within the window reports the largest of the samples from five times its start up to
five times its end, the first sample that gave it, and the status of its kind. -/
def Obligations.PulseGatesReportTheirPeak : Prop :=
  ∀ (e : ProbeEntry) (i : Place) (g : Gate) (samples : List Sample) (excerpt : Option Nat) (total : Nat),
    e.gates[i] = some g → g.origin = .pulse → 1 ≤ g.width → 5 * (g.start + g.width) ≤ samples.length →
    ∃ res ∈ ((Evaluator.start e excerpt total).run 0 samples).results,
      gatePeakIs samples g i (5 * g.start) (5 * (g.start + g.width)) res

/-- An INTERFACE gate is placed from the first sample of the coupling gate that reaches its threshold; without such a
sample it is UNSYNCED with peak and peak time 0. -/
def Obligations.InterfaceGatesFollowTheCrossing : Prop :=
  ∀ (e : ProbeEntry) (i j : Place) (g c : Gate) (samples : List Sample) (excerpt : Option Nat) (total : Nat),
    couplingGateOf e = some (j, c) → c.origin = .pulse → e.gates[i] = some g → g.origin = .interface →
    1 ≤ g.width →
    (∀ (n : Nat) (v : Sample), 5 * c.start ≤ n → n < 5 * (c.start + c.width) → samples[n]? = some v →
      c.threshold ≤ v.val → (∀ k w, 5 * c.start ≤ k → k < n → samples[k]? = some w → w.val < c.threshold) →
      n + 5 * (g.start + g.width) ≤ samples.length →
      ((Evaluator.start e excerpt total).run 0 samples).crossing = some n ∧
      ∃ res ∈ ((Evaluator.start e excerpt total).run 0 samples).results,
        gatePeakIs samples g i (n + 5 * g.start) (n + 5 * (g.start + g.width)) res) ∧
    ((∀ k w, 5 * c.start ≤ k → k < 5 * (c.start + c.width) → samples[k]? = some w → w.val < c.threshold) →
      ((Evaluator.start e excerpt total).run 0 samples).crossing = none ∧
      { place := i, kind := g.kind, status := .unsynced, peak := 0, time := 0 } ∈
        ((Evaluator.start e excerpt total).run 0 samples).results)

/-- Excerpt sample j is the largest of the window samples from the whole part of j·S/L up to but not including that of
(j + 1)·S/L, and there are L of them. -/
def Obligations.ExcerptSamplesAreGroupMaxima : Prop :=
  ∀ (e : ProbeEntry) (len : Nat) (samples : List Sample), 1 ≤ len → len ≤ samples.length →
    ∃ x, ((Evaluator.start e (some len) samples.length).run 0 samples).excerpt = some x ∧ x.samples.length = len ∧
      ∀ j v, x.samples[j]? = some v →
        (∃ k : Nat, j * samples.length / len ≤ k ∧ k < (j + 1) * samples.length / len ∧ samples[k]? = some v) ∧
        ∀ (k : Nat) (w : Sample), j * samples.length / len ≤ k → k < (j + 1) * samples.length / len →
          samples[k]? = some w → w ≤ v

/-- A shot is saturated when a gate result carries a peak of 1023 and alarmed when a PEAK or LOSS result is HIT; the
SHOT record carries both; under ALWAYS every shot is reported, and under ON_EVENT one that is alarmed, changed the
coupling state, has an excerpt attached or dropped, claimed a snapshot or is saturated. A reported shot's excerpt goes
to its page and its record is fanned out; a shot not reported frees its slot; the pending list is then served. -/
def Obligations.AlarmSaturationAndReport : Prop :=
  (∀ gates : List GateResult, saturatedOf gates = true ↔ ∃ g ∈ gates, g.peak = 1023) ∧
  (∀ gates : List GateResult,
    alarmedOf gates = true ↔ ∃ g ∈ gates, (g.kind = .peak ∨ g.kind = .loss) ∧ g.status = .hit) ∧
  (∀ (s : State) (p : ProbeNo) (g : ShotGrant) (gates : List GateResult),
    s.shotOf p g gates = { grant := g, coupling := s.coup.probes[p].state, alarmed := alarmedOf gates,
                           saturated := saturatedOf gates, gates := gates }) ∧
  (∀ (g : ShotGrant) (gates : List GateResult) (changed excerpt : Bool),
    reportDecision .always g gates changed excerpt = true) ∧
  (∀ (g : ShotGrant) (gates : List GateResult) (changed excerpt : Bool),
    reportDecision .onEvent g gates changed excerpt = true ↔
      (alarmedOf gates = true ∨ changed = true ∨ excerpt = true ∨ g.dropped = true ∨ g.snapshot = true ∨
        saturatedOf gates = true)) ∧
  (∀ (h : Hub) (n : Nat) (x : Slot) (samples : List Sample) (r : Rec),
    h.report n x (some samples) r =
      ((h.withPool (h.pool.putSlot n
        { x with page := x.page.map (fun z => { no := z.no, samples := samples }) })).fanOut n r).drain) ∧
  (∀ (h : Hub) (n : Nat) (x : Slot) (r : Rec), x.page = none →
    h.report n x none r = ((h.withPool (h.pool.putSlot n x)).fanOut n r).drain) ∧
  ∀ (h : Hub) (n : Nat), h.discardShot n = (h.withPool (h.pool.freeSlot n)).drain

/-- The coupling state of a probe is updated by the tables of a coupling hit and a coupling miss, with the M and N of
the active bank. A change that enters or leaves UNCOUPLED hands a COUPLING notice with the probe, the new state and the
shot's step number to the pool, and both spray lines follow their condition; any other update changes the probe's entry
alone. -/
def Obligations.CouplingTables : Prop :=
  (∀ (s : State) (p : ProbeNo) (n : StepNo),
    (s.couple p (some true) n).coup.probes[p] = (s.coup.probes[p]).hit (s.bank.probe p).fields.recoveryRun ∧
    (s.couple p (some false) n).coup.probes[p] = (s.coup.probes[p]).miss (s.bank.probe p).fields.lossRun ∧
    s.couple p none n = s) ∧
  (∀ (s : State) (p : ProbeNo) (hit : Bool) (n : StepNo),
    let x := s.coup.probes[p]
    let t := s.couple p (some hit) n
    let y := t.coup.probes[p]
    (x.state ≠ y.state ∧ (x.state = .uncoupled ∨ y.state = .uncoupled) →
      t.coup.probes = s.coup.probes.set p y ∧
      t.hub = s.hub.hand
        { run := if s.run.state = .idle then 0 else s.run.number, epoch := s.plan.epoch, position := s.odo.position,
          doubtful := s.odo.doubtful, body := .coupling p y.state n } ∧
      (t.coup.sprayA = true ↔
        s.run.state ≠ .idle ∧ ∃ q : ProbeNo, q.val < 12 ∧ t.coup.probes[q].state = .uncoupled) ∧
      (t.coup.sprayB = true ↔
        s.run.state ≠ .idle ∧ ∃ q : ProbeNo, 12 ≤ q.val ∧ t.coup.probes[q].state = .uncoupled) ∧
      { t with coup := s.coup, hub := s.hub } = s) ∧
    (¬ (x.state ≠ y.state ∧ (x.state = .uncoupled ∨ y.state = .uncoupled)) →
      t = { s with coup := { s.coup with probes := s.coup.probes.set p y } })) ∧
  (∀ (x : ProbeCoupling) (m : Nat), x.state ≠ .uncoupled → x.hit m = { x with state := .coupled, misses := 0 }) ∧
  (∀ (x : ProbeCoupling) (m : Nat), x.state = .uncoupled → x.recoveries + 1 < m →
    x.hit m = { x with recoveries := x.recoveries + 1 }) ∧
  (∀ (x : ProbeCoupling) (m : Nat), x.state = .uncoupled → m ≤ x.recoveries + 1 →
    x.hit m = { state := .coupled, misses := 0, recoveries := 0 }) ∧
  (∀ (x : ProbeCoupling) (n : Nat), x.state ≠ .uncoupled → x.misses + 1 < n →
    x.miss n = { x with state := .doubt, misses := x.misses + 1 }) ∧
  (∀ (x : ProbeCoupling) (n : Nat), x.state ≠ .uncoupled → n ≤ x.misses + 1 →
    x.miss n = { state := .uncoupled, misses := 0, recoveries := 0 }) ∧
  ∀ (x : ProbeCoupling) (n : Nat), x.state = .uncoupled → x.miss n = { x with recoveries := 0 }

/-! ## The Record Pool -/

/-- The sequence counter is 0 after hardware reset; each fan-out advances it by 1, from 4,294,967,295 to 1, and
gives the new value to its record, so no record takes 0. -/
def Obligations.SequenceNumbersSkipZero : Prop :=
  State.reset.hub.pool.seq = 0 ∧
  (∀ x : BitVec 32, x ≠ 0xFFFFFFFF#32 → nextSeq x = x + 1) ∧ nextSeq 0xFFFFFFFF#32 = 1 ∧ (∀ x, nextSeq x ≠ 0) ∧
  (∀ (h : Hub) (n : Nat) (r : Rec), (h.fanOut n r).pool.seq = nextSeq h.pool.seq) ∧
  ∀ (h : Hub) (n : Nat) (r : Rec) (x : Slot), h.pool.wf = true → (h.fanOut n r).pool.slot n = some x →
    h.pool.slot n ≠ none → x.content = .record (nextSeq h.pool.seq) r

/-- Fan-out offers the record to every port that wants it, each by the state of its own queue; the slot becomes QUEUED
with as many references as queues took one, or FREE with its page when none did. A CLAIMED snapshot entry bound to the
shot is consumed. A port that holds a TAKE and has an entry then ends the hold: its timer stops, it is ANSWERING, and
its idle transmit side sends a refusal or answer that waits, or else the record that arrived. Nothing else of any port
changes. -/
def Obligations.FanOutReachesEveryPortThatWants : Prop :=
  ∀ (h : Hub) (n : Nat) (r : Rec) (x : Slot), h.pool.wf = true → h.pool.slot n = some x →
    let seq := nextSeq h.pool.seq
    let took := fun q => (h.dist q).wants n r && ((h.dist q).offer seq n).2
    let k := allPorts.countP took
    (∀ q, let d := h.dist q
      let d' := (h.fanOut n r).dist q
      d'.queue = (if d.wants n r then (d.offer seq n).1.queue else d.queue) ∧
      d'.gap = (if d.wants n r then (d.offer seq n).1.gap else d.gap) ∧
      ((∃ shot, r.body = .shot shot) → (∃ p, d.snap = .claimed p n) → d'.snap = .none) ∧
      (¬ ((∃ shot, r.body = .shot shot) ∧ ∃ p, d.snap = .claimed p n) → d'.snap = d.snap) ∧
      d'.attention = (if d.wants n r then attentionOf (h.pool.setContent n (.record seq r)) d' else d.attention) ∧
      d' = { d with queue := d'.queue, gap := d'.gap, snap := d'.snap, attention := d'.attention }) ∧
    (∀ q, let c := h.ctl q
      let c' := (h.fanOut n r).ctl q
      let woken : PortCtl := { c with state := .answering, heldTimer := none }
      (c.state ≠ .heldTake ∨ ((h.fanOut n r).dist q).queue = [] → c' = c) ∧
      (c.state = .heldTake → ((h.fanOut n r).dist q).queue ≠ [] →
        c.sending ≠ none ∨ c.refusals ≠ [] ∨ c.answers ≠ [] → c' = woken.nextFrame) ∧
      ∀ j, c.state = .heldTake → c.take = some j → j.left ≠ 0 → c.sending = none → c.refusals = [] →
        c.answers = [] → (h.dist q).queue = [] → (h.dist q).gap = none → took q = true →
        c' = { woken with sending := some (.entry (.record j.tag seq r (x.page.map (fun z => z.samples)))) }) ∧
    ((h.fanOut n r).pool.slot n =
      if k = 0 then none else some { x with phase := .queued, refs := k, content := .record seq r }) ∧
    (∀ m, m ≠ n → (h.fanOut n r).pool.slot m = h.pool.slot m) ∧
    (h.fanOut n r).pool.waiting = h.pool.waiting ∧ (h.fanOut n r).pool.lost = h.pool.lost

/-- A record other than a shot handed to the pool is fanned out from a FREE slot when the pending list is empty and one
is FREE; with no slot FREE it joins the tail of a pending list of fewer than 8, or is lost and counted up to
4,294,967,295. -/
def Obligations.RecordsArePlacedPendedOrLost : Prop :=
  (∀ (h : Hub) (r : Rec) (n : Nat), h.pool.waiting = [] → h.pool.firstFreeSlot = some n →
    h.hand r = (h.withPool (h.pool.putSlot n { phase := .assembling, refs := 0, content := .unnumbered r,
                                               page := none })).fanOut n r) ∧
  (∀ (h : Hub) (r : Rec), h.pool.firstFreeSlot = none → h.pool.waiting.length < 8 →
    h.hand r = h.withPool { h.pool with waiting := h.pool.waiting ++ [r] }) ∧
  ∀ (h : Hub) (r : Rec), h.pool.firstFreeSlot = none → h.pool.waiting.length = 8 →
    h.hand r = h.withPool
      { h.pool with lost := if h.pool.lost = 0xFFFFFFFF#32 then 0xFFFFFFFF#32 else h.pool.lost + 1 }

/-- A release takes one from the count of its slot; the release of the last reference frees the slot, which goes to
the oldest of the pending records. FREE slots go to pending records, oldest first, until none is pending or none is
FREE. At the end of an event, with the pending list empty, losses counted and a slot FREE, a NOTICES_LOST notice with
the count takes the slot and the count returns to 0; otherwise nothing is produced. -/
def Obligations.ReleasesFreeSlotsAndReportLosses : Prop :=
  let place := fun (h : Hub) (pool : Pool) (n : Nat) (r : Rec) =>
    (h.withPool (pool.putSlot n { phase := .assembling, refs := 0, content := .unnumbered r, page := none })).fanOut n r
  (∀ (h : Hub) (n : Nat) (x : Slot), h.pool.slot n = some x → 2 ≤ x.refs →
    h.releaseRef n = h.withPool (h.pool.putSlot n { x with refs := x.refs - 1 })) ∧
  (∀ (h : Hub) (n : Nat) (x : Slot), h.pool.slot n = some x → x.refs = 1 → h.pool.waiting = [] →
    h.releaseRef n = h.withPool (h.pool.freeSlot n)) ∧
  (∀ (h : Hub) (n : Nat) (x : Slot) (r : Rec) (rest : List Rec), h.pool.wf = true → h.pool.slot n = some x →
    x.refs = 1 → h.pool.waiting = r :: rest → h.pool.firstFreeSlot = none →
    h.releaseRef n = (place h { h.pool.freeSlot n with waiting := rest } n r).drain) ∧
  (∀ h : Hub, h.pool.waiting = [] ∨ h.pool.firstFreeSlot = none → h.drain = h) ∧
  (∀ (h : Hub) (r : Rec) (rest : List Rec) (m : Nat), h.pool.waiting = r :: rest → h.pool.firstFreeSlot = some m →
    h.drain = (place h { h.pool with waiting := rest } m r).drain) ∧
  (∀ (s : State) (n : Nat), s.hub.pool.waiting = [] → s.hub.pool.lost ≠ 0 → s.hub.pool.firstFreeSlot = some n →
    s.endPool = s.withHub
      (place s.hub { s.hub.pool with lost := 0 } n (s.mkRec (.noticesLost s.hub.pool.lost)))) ∧
  ∀ s : State, s.hub.pool.waiting ≠ [] ∨ s.hub.pool.lost = 0 ∨ s.hub.pool.firstFreeSlot = none → s.endPool = s

/-! ## Distribution -/

/-- An offered record: with no gap open it is appended below depth 256, and at depth 256 it opens a gap of itself;
with a gap open it is appended behind the gap's marker when two positions are free, and otherwise joins the gap. -/
def Obligations.QueuesTakeOffersOrKeepGaps : Prop :=
  (∀ (d : PortDist) (seq : BitVec 32) (n : Nat), d.gap = none → d.queue.length < 256 →
    d.offer seq n = ({ d with queue := d.queue ++ [.ref n] }, true)) ∧
  (∀ (d : PortDist) (seq : BitVec 32) (n : Nat), d.gap = none → 256 ≤ d.queue.length →
    d.offer seq n = ({ d with gap := some { count := 1, first := seq, last := seq } }, false)) ∧
  (∀ (d : PortDist) (g : Gap) (seq : BitVec 32) (n : Nat), d.gap = some g → d.queue.length + 2 ≤ 256 →
    d.offer seq n = ({ d with queue := d.queue ++ [.marker g, .ref n], gap := none }, true)) ∧
  ∀ (d : PortDist) (g : Gap) (seq : BitVec 32) (n : Nat), d.gap = some g → 256 < d.queue.length + 2 →
    d.offer seq n =
      ({ d with gap := some { count := if g.count = 0xFFFFFFFF#32 then 0xFFFFFFFF#32 else g.count + 1,
                              first := g.first, last := seq } }, false)

/-- The stream key is 32 times the kind, plus 16 times the rail, plus the probe within the rail, 15 for a SKIP; no
other record has one. A port wants a record when an enabled entry matches its stream key in every bit of the mask,
when it is general and the general flag is on, or when it is the shot its CLAIMED snapshot entry is bound to; with
its reset values it wants none. -/
def Obligations.PortsWantWhatTheyAskedFor : Prop :=
  (∀ x : Shot, x.grant.rail = .a → x.grant.probe.val < 12 →
    (Body.shot x).streamKey = some (BitVec.ofNat 6 (32 * 0 + 16 * 0 + x.grant.probe.val))) ∧
  (∀ x : Shot, x.grant.rail = .b → 12 ≤ x.grant.probe.val →
    (Body.shot x).streamKey = some (BitVec.ofNat 6 (32 * 0 + 16 * 1 + (x.grant.probe.val - 12)))) ∧
  (∀ run, (Body.skip .a run).streamKey = some (BitVec.ofNat 6 (32 * 1 + 16 * 0 + 15))) ∧
  (∀ run, (Body.skip .b run).streamKey = some (BitVec.ofNat 6 (32 * 1 + 16 * 1 + 15))) ∧
  (∀ b : Body, b.general = true → b.streamKey = none) ∧
  (∀ (x : Subscription) (key : BitVec 6),
    x.hits key = true ↔ x.enabled = true ∧ ∀ i < 6, x.mask.getLsbD i = true → key.getLsbD i = x.matchVal.getLsbD i) ∧
  (∀ (d : PortDist) (n : Nat) (r : Rec),
    d.wants n r = true ↔
      (∃ key, r.body.streamKey = some key ∧ ∃ i : Fin 8, (d.subs[i]).hits key = true) ∨
      (r.body.general = true ∧ d.general = true) ∨
      ((∃ x, r.body = .shot x) ∧ ∃ p, d.snap = .claimed p n)) ∧
  ∀ (n : Nat) (r : Rec), PortDist.reset.wants n r = false

/-! ## Ports -/

/-- A request frame at a port that is ANSWERING is refused BUSY with its tag, the refusal joining the refusal list, from
which an idle transmit side sends the oldest, or being discarded without a frame when 4 wait; the receive buffer is
emptied, and nothing else of the port or of the part changes. At a port that is ABSENT a request changes nothing. A
complete frame of an unlisted kind, where a request is taken, is answered UNKNOWN_REQUEST and changes nothing else. -/
def Obligations.BusyAndUnknownRequestsAreRefused : Prop :=
  (∀ (s : State) (p : Port) (f : TxFrame) (t : State), s.refusedBy p f t ↔
    t = s.withHub (s.hub.setCtl p
      (if (s.hub.ctl p).refusals.length < 4 then
        PortCtl.nextFrame { s.hub.ctl p with rx := [], refusals := (s.hub.ctl p).refusals ++ [f] }
      else { s.hub.ctl p with rx := [] }))) ∧
  (∀ (c : Instr) (q : Request) (s : State), requestOf c = some q → c.wellFormed = true → s.resetLow = false →
    (s.hub.ctl q.port).state = .answering →
    ∃ t : State, exec c s = .next t ∧ s.refusedBy q.port (.response q.tag q.kind (.refused .busy)) t) ∧
  (∀ (p : Port) (tag kind : Byte) (s : State), s.resetLow = false → (s.hub.ctl p).state = .answering →
    ∃ t : State, exec (.busyRefusal p tag kind) s = .next t ∧ s.refusedBy p (.response tag kind (.refused .busy)) t) ∧
  (∀ (c : Instr) (q : Request) (s : State), requestOf c = some q → (s.hub.ctl q.port).state = .absent →
    exec c s = .next s) ∧
  ∀ (s : State) (p : Port) (tag kind : Byte), s.takesOn p → knownKind kind = false →
    ∃ t : State, exec (.unknownRequest p tag kind) s = .next t ∧
      s.answeredBy p (.response tag kind (.refused .unknownRequest)) t

/-- The expiry of a held TAKE stops its timer, ends the TAKE and sends END with 0 entries, depth 0 and no gap as the
next frame of the answer, the port ANSWERING until it is sent; nothing else changes. A request frame ends the hold with
the same END before its own answer. -/
def Obligations.HeldTakeEndsWithEmptyEnd : Prop :=
  (∀ (s : State) (p : Port) (j : TakeJob), s.resetLow = false → (s.hub.ctl p).state = .heldTake →
    (s.hub.ctl p).take = some j →
    exec (.heldTakeExpiry p) s =
      .next (s.withHub (s.hub.setCtl p (PortCtl.nextFrame
        { s.hub.ctl p with
          state := .answering
          heldTimer := none
          take := none
          answers := (s.hub.ctl p).answers ++ [.endTake j.tag 0 0 false] })))) ∧
  ∀ (c : Instr) (q : Request) (s : State) (j : TakeJob), requestOf c = some q → c.wellFormed = true →
    s.resetLow = false → (s.hub.ctl q.port).state = .heldTake → (s.hub.ctl q.port).take = some j →
    (s.hub.ctl q.port).sending = none → (s.hub.ctl q.port).refusals = [] → (s.hub.ctl q.port).answers = [] →
    ∃ t : State, exec c s = .next t ∧ (t.hub.ctl q.port).sending = some (.answer (.endTake j.tag 0 0 false))

/-- The characters a FRAME_ERROR carries (the model's choice, log 25) make a frame with a length below 4 or above 62, a
bad check or a length that does not fit a listed kind; or a gap follows inside a frame. The frame is discarded and a
FRAME_ERROR refusal joins the refusal list, or is discarded when 4 wait; nothing else changes, the answer in progress
and a held TAKE included; that a refusal formed while a TAKE is held is sent at once by an idle transmit side is DEDUCED
(log 34). Characters before a start character are discarded, and a port that is ABSENT ignores all. -/
def Obligations.FramingErrorsAreRefused : Prop :=
  (∀ (s : State) (p : Port) (len : Byte), s.resetLow = false → (s.hub.ctl p).state ≠ .absent →
    (s.hub.ctl p).rx = [] → ¬ (4 ≤ len.toNat ∧ len.toNat ≤ 62) →
    ∃ t : State, exec (.frameError p [0xA5, len]) s = .next t ∧ s.refusedBy p (.response 0 0 (.refused .frameError)) t) ∧
  (∀ (s : State) (p : Port) (len : Byte) (inner check : List Byte), s.resetLow = false →
    (s.hub.ctl p).state ≠ .absent → (s.hub.ctl p).rx = [] → 4 ≤ len.toNat → len.toNat ≤ 62 → check.length = 2 →
    inner.length + 2 = len.toNat → check ≠ checkBytes (len :: inner) →
    ∃ t : State, exec (.frameError p ([0xA5, len] ++ inner ++ check)) s = .next t ∧
      s.refusedBy p (.response 0 0 (.refused .frameError)) t) ∧
  (∀ (s : State) (p : Port) (len kind tag : Byte) (payload : List Byte) (n : Nat), s.resetLow = false →
    (s.hub.ctl p).state ≠ .absent → (s.hub.ctl p).rx = [] → 4 ≤ len.toNat → len.toNat ≤ 62 →
    payload.length + 4 = len.toNat → payloadLength kind = some n → payload.length ≠ n →
    ∃ t : State, exec (.frameError p ([0xA5, len, kind, tag] ++ payload ++ checkBytes ([len, kind, tag] ++ payload))) s =
        .next t ∧ s.refusedBy p (.response 0 0 (.refused .frameError)) t) ∧
  (∀ (s : State) (p : Port), s.resetLow = false → (s.hub.ctl p).rx ≠ [] →
    ∃ t : State, exec (.interCharacterGapTimeout p) s = .next t ∧ s.refusedBy p (.response 0 0 (.refused .frameError)) t) ∧
  (∀ (s : State) (p : Port), s.resetLow = false → (s.hub.ctl p).rx = [] →
    exec (.interCharacterGapTimeout p) s = .next s) ∧
  (∀ (s : State) (p : Port) (c : Byte), s.resetLow = false → (s.hub.ctl p).rx = [] → c ≠ 0xA5 →
    exec (.frameError p [c]) s = .next s) ∧
  ∀ (s : State) (p : Port) (chars : List Byte), (s.hub.ctl p).state = .absent →
    exec (.frameError p chars) s = .next s

/-- The characters of a request frame, received one after another on an empty buffer, act exactly as the request: no
field of any request is lost or misread on the way. That a command of the model is a whole frame (log 10), and that
FRAME_ERROR carries characters and handles a good frame among them (log 25), are the model's choices. -/
def Obligations.RequestFramesActAsRequests : Prop :=
  ∀ (c : Instr) (q : Request) (s : State), requestOf c = some q → c.wellFormed = true →
    (s.hub.ctl q.port).rx = [] → exec (.frameError q.port q.chars) s = exec c s

/-- When a frame has been sent, a refusal that waits is sent first, oldest first, and else the answer's next frame; after
an answer's last frame the port is READY. An entry sent leaves the head of the queue with its reference released, and
counts in its TAKE. A TAKE goes on with the head entry while its count lasts, an empty queue's gap first becoming its
marker, and ends with END: the entries sent, the depth and the gap as they then stand. An
answer's frame sent at a port that holds a TAKE again leaves the hold. That NOTICES_LOST is looked for between the
removal of an entry and the choice of the next frame (log 8), and that frames which wait are sent while a TAKE is held
(log 34), are DEDUCED. -/
def Obligations.FrameSentChoosesTheNextFrame : Prop :=
  (∀ (s : State) (p : Port) (f g : TxFrame) (rest : List TxFrame), s.resetLow = false →
    (s.hub.ctl p).sending = some (.refusal f) → (s.hub.ctl p).refusals = g :: rest →
    exec (.frameSent p) s =
      .next (s.withHub (s.hub.setCtl p { s.hub.ctl p with refusals := rest, sending := some (.refusal g) }))) ∧
  (∀ (s : State) (p : Port) (f g : TxFrame) (rest : List TxFrame), s.resetLow = false →
    (s.hub.ctl p).sending = some (.refusal f) → (s.hub.ctl p).refusals = [] → (s.hub.ctl p).answers = g :: rest →
    exec (.frameSent p) s =
      .next (s.withHub (s.hub.setCtl p { s.hub.ctl p with answers := rest, sending := some (.answer g) }))) ∧
  (∀ (s : State) (p : Port) (f : TxFrame), s.resetLow = false → (s.hub.ctl p).sending = some (.refusal f) →
    (s.hub.ctl p).refusals = [] → (s.hub.ctl p).answers = [] →
    (s.hub.ctl p).take = none ∨ (s.hub.ctl p).state ≠ .answering →
    exec (.frameSent p) s = .next (s.withHub (s.hub.setCtl p { s.hub.ctl p with sending := none }))) ∧
  (∀ (s : State) (p : Port) (f g : TxFrame) (rest : List TxFrame), s.resetLow = false →
    (s.hub.ctl p).sending = some (.answer f) → (s.hub.ctl p).refusals = g :: rest →
    exec (.frameSent p) s =
      .next (s.withHub (s.hub.setCtl p
        { s.hub.ctl p with
          state :=
            if (s.hub.ctl p).state = .answering ∧ (s.hub.ctl p).answers = [] ∧ (s.hub.ctl p).take = none then .ready
            else (s.hub.ctl p).state
          refusals := rest
          sending := some (.refusal g) }))) ∧
  (∀ (s : State) (p : Port) (f g : TxFrame) (rest : List TxFrame), s.resetLow = false →
    (s.hub.ctl p).sending = some (.answer f) → (s.hub.ctl p).refusals = [] → (s.hub.ctl p).answers = g :: rest →
    exec (.frameSent p) s =
      .next (s.withHub (s.hub.setCtl p { s.hub.ctl p with answers := rest, sending := some (.answer g) }))) ∧
  (∀ (s : State) (p : Port) (f : TxFrame), s.resetLow = false → (s.hub.ctl p).sending = some (.answer f) →
    (s.hub.ctl p).refusals = [] → (s.hub.ctl p).answers = [] → (s.hub.ctl p).take = none →
    (s.hub.ctl p).state = .answering →
    exec (.frameSent p) s =
      .next (s.withHub (s.hub.setCtl p { s.hub.ctl p with state := .ready, sending := none }))) ∧
  (∀ (s : State) (p : Port) (f : TxFrame), s.resetLow = false → (s.hub.ctl p).sending = some (.answer f) →
    (s.hub.ctl p).refusals = [] → (s.hub.ctl p).answers = [] → (s.hub.ctl p).state ≠ .answering →
    exec (.frameSent p) s = .next (s.withHub (s.hub.setCtl p { s.hub.ctl p with sending := none }))) ∧
  (∀ (s : State) (p : Port) (f : TxFrame) (j : TakeJob), s.resetLow = false →
    (s.hub.ctl p).sending = some (.refusal f) ∨ (s.hub.ctl p).sending = some (.answer f) →
    (s.hub.ctl p).refusals = [] → (s.hub.ctl p).answers = [] → (s.hub.ctl p).take = some j →
    (s.hub.ctl p).state = .answering →
    exec (.frameSent p) s =
      .next (s.withHub ((s.hub.setCtl p { s.hub.ctl p with sending := none }).startNext p))) ∧
  (∀ (s : State) (p : Port) (f : TxFrame) (e : Entry) (rest : List Entry) (j : TakeJob), s.resetLow = false →
    (s.hub.ctl p).sending = some (.entry f) → (s.hub.dist p).queue = e :: rest → (s.hub.ctl p).take = some j →
    ∃ (h : Hub) (u : State), h.pool = s.hub.pool ∧ (∀ q, q ≠ p → h.ports[q] = s.hub.ports[q]) ∧
      h.dist p = { s.hub.dist p with queue := rest,
                                     attention := attentionOf s.hub.pool { s.hub.dist p with queue := rest } } ∧
      h.ctl p =
        { s.hub.ctl p with
          sending := none
          take := some { tag := j.tag, left := j.left - 1, sent := j.sent + 1 } } ∧
      u = (s.withHub (match e with | .ref n => h.releaseRef n | .marker _ => h)).endPool ∧
      exec (.frameSent p) s = .next (u.withHub (u.hub.startNext p))) ∧
  ∀ (h : Hub) (p : Port) (j : TakeJob), (h.ctl p).sending = none → (h.ctl p).state = .answering →
    (h.ctl p).take = some j →
    ((h.ctl p).refusals ≠ [] ∨ (h.ctl p).answers ≠ [] → h.startNext p = h.setCtl p (h.ctl p).nextFrame) ∧
    ((h.ctl p).refusals = [] → (h.ctl p).answers = [] →
      (j.left = 0 ∨ ((h.dist p).queue = [] ∧ (h.dist p).gap = none) →
        h.startNext p = h.setCtl p
          { h.ctl p with
            take := none
            sending := some (.answer (.endTake j.tag j.sent (h.dist p).queue.length (h.dist p).gap.isSome)) }) ∧
      (∀ n rest seq r x, j.left ≠ 0 → (h.dist p).queue = .ref n :: rest → h.pool.slot n = some x →
        x.content = .record seq r →
        h.startNext p = h.setCtl p
          { h.ctl p with sending := some (.entry (.record j.tag seq r (x.page.map (fun y => y.samples)))) }) ∧
      (∀ g rest, j.left ≠ 0 → (h.dist p).queue = .marker g :: rest →
        h.startNext p = h.setCtl p { h.ctl p with sending := some (.entry (.gap j.tag g)) }) ∧
      ∀ g, j.left ≠ 0 → (h.dist p).queue = [] → (h.dist p).gap = some g →
        h.startNext p = (h.putDist p { h.dist p with queue := [.marker g], gap := none }).setCtl p
          { h.ctl p with sending := some (.entry (.gap j.tag g)) })

/-- TAKE: a count outside 1 to 32 is refused RANGE; on an empty queue without a gap END with 0 entries answers at once
when the hold time is 0, and otherwise the TAKE is held with its tag and count and its timer; on other queues it is
answered by the frames of the queue: a READY port whose transmit side is idle sends the head entry, an empty queue's gap
first becoming its marker. -/
def Obligations.TakeSendsHoldsOrEnds : Prop :=
  (∀ (s : State) (p : Port) (tag count : Byte), s.takesOn p → ¬ (1 ≤ count.toNat ∧ count.toNat ≤ 32) →
    ∃ t : State, exec (.take p tag count) s = .next t ∧ s.answeredBy p (.response tag 0x06 (.refused (.range 1))) t) ∧
  (∀ (s : State) (p : Port) (tag count : Byte), s.takesOn p → 1 ≤ count.toNat → count.toNat ≤ 32 →
    (s.hub.dist p).queue = [] → (s.hub.dist p).gap = none → (s.hub.ctl p).holdTime = 0 →
    ∃ t : State, exec (.take p tag count) s = .next t ∧ s.answeredBy p (.endTake tag 0 0 false) t) ∧
  (∀ (s : State) (p : Port) (tag count : Byte), s.takesOn p → 1 ≤ count.toNat → count.toNat ≤ 32 →
    (s.hub.dist p).queue = [] → (s.hub.dist p).gap = none → (s.hub.ctl p).holdTime ≠ 0 →
    exec (.take p tag count) s = .next (s.withHub (s.hub.setCtl p
      { (s.hub.ctl p).taken with
        state := .heldTake
        take := some { tag := tag, left := count.toNat, sent := 0 }
        heldTimer := some (s.hub.ctl p).holdTime }))) ∧
  (∀ (s : State) (p : Port) (tag count : Byte), s.takesOn p → 1 ≤ count.toNat → count.toNat ≤ 32 →
    (s.hub.dist p).queue ≠ [] ∨ (s.hub.dist p).gap ≠ none →
    exec (.take p tag count) s = .next (s.withHub ((s.hub.setCtl p
      { (s.hub.ctl p).taken with
        state := .answering
        take := some { tag := tag, left := count.toNat, sent := 0 } }).startNext p))) ∧
  ∀ (s : State) (p : Port) (tag count : Byte), s.resetLow = false → (s.hub.ctl p).state = .ready →
    1 ≤ count.toNat → count.toNat ≤ 32 → (s.hub.ctl p).sending = none → (s.hub.ctl p).refusals = [] →
    (s.hub.ctl p).answers = [] →
    (∀ g rest, (s.hub.dist p).queue = .marker g :: rest →
      exec (.take p tag count) s = .next (s.withHub (s.hub.setCtl p
        { s.hub.ctl p with state := .answering, rx := [], take := some { tag := tag, left := count.toNat, sent := 0 },
                           sending := some (.entry (.gap tag g)) }))) ∧
    (∀ n rest seq r x, (s.hub.dist p).queue = .ref n :: rest → s.hub.pool.slot n = some x →
      x.content = .record seq r →
      exec (.take p tag count) s = .next (s.withHub (s.hub.setCtl p
        { s.hub.ctl p with state := .answering, rx := [], take := some { tag := tag, left := count.toNat, sent := 0 },
                           sending := some (.entry (.record tag seq r (x.page.map (fun y => y.samples)))) }))) ∧
    ∀ g, (s.hub.dist p).queue = [] → (s.hub.dist p).gap = some g →
      exec (.take p tag count) s = .next (s.withHub ((s.hub.putDist p
        { s.hub.dist p with queue := [.marker g], gap := none }).setCtl p
        { s.hub.ctl p with state := .answering, rx := [], take := some { tag := tag, left := count.toNat, sent := 0 },
                           sending := some (.entry (.gap tag g)) }))

/-- The deassertion of the present line of a port that is not ABSENT sets the port to its reset values and ABSENT,
releases the references of its queue in queue order, removes it from every hold set, with a HOLD RELEASED record for
each set that becomes empty, in increasing probe number, and takes the edit right from it, with a shadow copy when no
commit is pending or being copied; nothing else changes. That the port takes its reset values first, so that it wants
nothing of the records that the freed slots bring to fan-out, is DEDUCED (log 18). In ABSENT it changes nothing. -/
def Obligations.PortResetClearsThePort : Prop :=
  (∀ (h : Hub) (n : Nat), h.releaseEntry (.ref n) = h.releaseRef n) ∧
  (∀ (h : Hub) (g : Gap), h.releaseEntry (.marker g) = h) ∧
  (∀ (s : State) (p : Port), s.resetLow = false → (s.hub.ctl p).state ≠ .absent →
    let h := (s.hub.dist p).queue.foldl Hub.releaseEntry (s.hub.setPort p PortUnit.reset)
    let t := State.endPool
      { s with
        plan :=
          if s.plan.holder = some p then
            { s.plan with holder := none, idleTimer := none,
                          commit := if s.plan.commit = .none then .copying else s.plan.commit }
          else s.plan
        run := { s.run with holds := s.run.holds.map (portRemove p) }
        hub := (List.finRange 24).foldl
          (fun h i => if s.run.holds[i] = portAdd p 0 then h.hand (s.mkRec (.hold i .released p)) else h) h }
    exec (.portReset p) s = .next t ∧ t.hub.ports[p] = PortUnit.reset) ∧
  ∀ (s : State) (p : Port), (s.hub.ctl p).state = .absent → exec (.portReset p) s = .next s

/-- IDENTIFY, READ STATUS and READ PLAN ENTRY are answered DONE with the values of their rules and change nothing; while
COPYING, SHADOW reads the active bank. A field out of range is refused RANGE; that the first one is named is the model's
choice (log 31). On the link the frame being sent is its start character, length, kind, tag and payload with the check,
numbers least significant byte first; each RESPONSE carries the request's kind, the outcome, the reason and its data,
each RECORD the common fields and those of its kind, GAP its count and numbers, END its counts. The signature of a bank
is the CRC-32 of the 1690 bytes of its canonical form, a block out of use and an empty gate place as in the empty plan;
that the remainder is read mirrored is PRESUMED (log 32). -/
def Obligations.AnswersCarryTheirValues : Prop :=
  (∀ (s : State) (p : Port) (tag : Byte), s.takesOn p →
    ∃ t : State, exec (.identify p tag) s = .next t ∧ s.answeredBy p (.response tag 0x01 (.done (.identity p))) t) ∧
  (∀ (s : State) (p : Port) (tag : Byte), s.takesOn p →
    ∃ t : State, exec (.readStatus p tag) s = .next t ∧ s.answeredBy p (.response tag 0x02 (.done (.status
      { runState := s.run.state, runNumber := s.run.number, stepNo := s.gen.stepNo, position := s.odo.position,
        doubtful := s.odo.doubtful, speed := s.odo.speed, direction := s.odo.direction,
        lag := s.gen.frontier.toInt - s.gen.disp.toInt, holder := s.plan.holder, commit := s.plan.commit,
        activeIx := s.plan.activeIx, epoch := s.plan.epoch, signature := s.plan.signature,
        freeSlots := 1024 - s.hub.pool.slots.length, freePages := 48 - s.hub.pool.usedPages.length,
        waiting := s.hub.pool.waiting.length, depth := (s.hub.dist p).queue.length,
        gapOpen := (s.hub.dist p).gap.isSome, holds := s.run.holds,
        coupling := s.coup.probes.map (fun x => x.state) }))) t) ∧
  (∀ (s : State) (p : Port) (tag role : Byte), s.takesOn p → role.toNat ≤ 1 →
    let who := if role.toNat = 0 then BankRole.active else BankRole.shadow
    let b := if role.toNat = 0 ∨ s.plan.commit = .copying then s.plan.activeBank else s.plan.shadowBank
    (∃ t, exec (.readPlanEntry p tag role 0 0) s = .next t ∧ s.answeredBy p (.response tag 0x09 (.done
      (.planEntry who (.settings b.settings) s.plan.activeIx s.plan.epoch s.plan.commit))) t) ∧
    (∀ i : ProbeNo, ∃ t, exec (.readPlanEntry p tag role 1 (BitVec.ofNat 8 i.val)) s = .next t ∧
      s.answeredBy p (.response tag 0x09 (.done
        (.planEntry who (.probe i (b.probe i)) s.plan.activeIx s.plan.epoch s.plan.commit))) t) ∧
    ∀ i : BlockIx, ∃ t, exec (.readPlanEntry p tag role 2 (BitVec.ofNat 8 (i.val + 1))) s = .next t ∧
      s.answeredBy p (.response tag 0x09 (.done
        (.planEntry who (.block i (b.block i)) s.plan.activeIx s.plan.epoch s.plan.commit))) t) ∧
  (∀ (s : State) (p : Port) (tag role item index : Byte) (n : Nat), s.takesOn p →
    firstOutside n
      [decide (role.toNat ≤ 1), decide (item.toNat ≤ 2),
        if item.toNat = 0 then decide (index.toNat = 0)
        else if item.toNat = 1 then decide (index.toNat ≤ 23)
        else decide (1 ≤ index.toNat ∧ index.toNat ≤ 64)] →
    ∃ t : State, exec (.readPlanEntry p tag role item index) s = .next t ∧
      s.answeredBy p (.response tag 0x09 (.refused (.range n))) t) ∧
  -- the frame around a payload (R174, R176)
  (∀ (s : State) (p : Port), s.wire p = (s.hub.ctl p).sending.map (fun x => x.frame.bytes)) ∧
  (∀ n x : Nat, (leBytes n x).length = n ∧ ∀ i < n, (leBytes n x)[i]? = some (BitVec.ofNat 8 (x / 256 ^ i))) ∧
  (∀ f : TxFrame,
    let checked := leBytes 2 (f.payload.length + 4) ++ [f.kindByte, f.tag] ++ f.payload
    f.bytes = [0xA5#8] ++ checked ++ [(crc16 checked >>> 8).setWidth 8, (crc16 checked).setWidth 8]) ∧
  (crc16 [] = 0xFFFF ∧ ∀ (bs : List Byte) (b : Byte),
    crc16 (bs ++ [b]) = (List.range 8).foldl
      (fun c _ => if c.getLsbD 15 then (c <<< 1) ^^^ 0x1021#16 else c <<< 1) (crc16 bs ^^^ (b.setWidth 16 <<< 8))) ∧
  -- RESPONSE (11.3, R172, R173)
  (∀ (tag kind : Byte) (r : Reply),
    (TxFrame.response tag kind r).kindByte = 0x81 ∧ (TxFrame.response tag kind r).tag = tag ∧
    (TxFrame.response tag kind r).payload = [kind] ++
      (match r with
        | .done .nothing => [0, 0]
        | .done (.runNumber n) => ([0, 0] : List Byte) ++ leBytes 2 n.toNat
        | .done (.identity p) =>
          [0, 0, 0x4E, 0x4B, 0x32, 0x34, 0x31, 0x32, 1, BitVec.ofNat 8 p.val, 24, 3, 64, 0x00, 0x04, 48, 0x00, 0x01, 8, 32]
        | .done (.planEntry role item ix epoch commit) =>
          [0, 0, role.code] ++
            (match item with
              | .settings _ => [0, 0]
              | .probe i _ => [1, BitVec.ofNat 8 i.val]
              | .block i _ => [2, BitVec.ofNat 8 (i.val + 1)] : List Byte) ++
            [BitVec.ofNat 8 ix.val] ++ leBytes 2 epoch.toNat ++ [commit.code] ++
            (match item with
              | .settings x => settingsBytes x
              | .probe _ x => probeBytes x
              | .block _ x => blockBytes x)
        | .done (.status x) =>
          [0, 0, x.runState.code] ++ leBytes 2 x.runNumber.toNat ++ leBytes 4 x.stepNo.toNat ++
            leBytes 4 x.position.toNat ++ [flagByte x.doubtful] ++ leBytes 4 x.speed ++ [x.direction.code] ++
            leBytes 6 (BitVec.ofInt 48 x.lag).toNat ++
            [(match x.holder with | some q => BitVec.ofNat 8 q.val | none => 255 : Byte), x.commit.code,
              BitVec.ofNat 8 x.activeIx.val] ++
            leBytes 2 x.epoch.toNat ++ leBytes 4 x.signature.toNat ++ leBytes 2 x.freeSlots ++ leBytes 1 x.freePages ++
            leBytes 1 x.waiting ++ leBytes 2 x.depth ++ [flagByte x.gapOpen] ++
            x.holds.toList.map (fun h => h.setWidth 8) ++ x.coupling.toList.map CouplingState.code
        | .pending f => ([1, 0] : List Byte) ++ leBytes 4 f.cycleA ++ leBytes 4 f.cycleB ++ leBytes 4 f.signature.toNat
        | .refused .notHolder => [2, 1]
        | .refused (.heldBy q) => [2, 2, BitVec.ofNat 8 q.val]
        | .refused .busy => [2, 3]
        | .refused (.invalid f) =>
          [2, 4, f.kind.code, (match f.rail with | some .a => 0 | some .b => 1 | none => 255 : Byte),
            (match f.block with | some i => BitVec.ofNat 8 (i.val + 1) | none => 255 : Byte),
            (match f.probe with | some i => BitVec.ofNat 8 i.val | none => 255 : Byte),
            (match f.place with | some i => BitVec.ofNat 8 i.val | none => 255 : Byte)]
        | .refused .runActive => [2, 5]
        | .refused .noRun => [2, 6]
        | .refused (.range n) => [2, 7, BitVec.ofNat 8 n]
        | .refused .notHeld => [2, 8]
        | .refused .unknownRequest => [2, 9]
        | .refused .frameError => [2, 10])) ∧
  -- RECORD (11.4, R177)
  (∀ (tag : Byte) (seq : BitVec 32) (r : Rec) (x : Option (List Sample)),
    (TxFrame.record tag seq r x).kindByte = 0x82 ∧ (TxFrame.record tag seq r x).tag = tag ∧
    (TxFrame.record tag seq r x).payload =
      leBytes 4 seq.toNat ++ leBytes 2 r.run.toNat ++ leBytes 2 r.epoch.toNat ++
        [(match r.body with
          | .shot _ => 0 | .skip _ _ => 1 | .mark _ _ _ => 2 | .coupling _ _ _ => 3 | .run _ _ _ => 4
          | .plan _ _ _ _ => 5 | .hold _ _ _ => 6 | .odometer _ => 7 | .noticesLost _ => 8 : Byte)] ++
        leBytes 4 r.position.toNat ++ [flagByte r.doubtful] ++
        (match r.body with
          | .shot y =>
            leBytes 4 y.grant.stepNo.toNat ++ leBytes 4 y.grant.stepPos.toNat ++ leBytes 4 y.grant.firePos.toNat ++
              [(match y.grant.rail with | .a => 0 | .b => 1 : Byte), BitVec.ofNat 8 y.grant.probe.val,
                BitVec.ofNat 8 (y.grant.block.val + 1),
                BitVec.ofNat 8 ((if y.grant.joined then 1 else 0) + (if y.grant.snapshot then 2 else 0) +
                  (if y.grant.dropped then 4 else 0) + (if y.alarmed then 8 else 0) +
                  (if y.saturated then 16 else 0)),
                y.coupling.code, BitVec.ofNat 8 y.gates.length] ++
              y.gates.flatMap (fun g => [BitVec.ofNat 8 g.place.val, g.kind.code, g.status.code] ++
                leBytes 2 g.peak ++ leBytes 2 g.time) ++
              (match x with
                | none => [0, 0]
                | some vs => leBytes 2 vs.length ++ vs.flatMap (fun v => leBytes 2 v.val))
          | .skip rail run =>
            [(match rail with | .a => 0 | .b => 1 : Byte)] ++ leBytes 4 run.first.toNat ++ leBytes 4 run.last.toNat ++
              (match run.cover with | .wholeSteps => [0, 0, 0] | .probeSet z => [1] ++ leBytes 2 z.toNat : List Byte)
          | .mark m action n =>
            [(match m with | .m0 => 0 | .m1 => 1 : Byte), (match action with | .mark => 0 | .load => 1 : Byte)] ++
              leBytes 4 n.toNat
          | .coupling p new n => [BitVec.ofNat 8 p.val, new.code] ++ leBytes 4 n.toNat
          | .run event label last =>
            [(match event with | .start => 0 | .completed => 1 | .stopped => 2 : Byte)] ++ leBytes 2 label.toNat ++
              leBytes 4 last.toNat
          | .plan epoch signature ix port =>
            leBytes 2 epoch.toNat ++ leBytes 4 signature.toNat ++ [BitVec.ofNat 8 ix.val, BitVec.ofNat 8 port.val]
          | .hold p change port =>
            [BitVec.ofNat 8 p.val, (match change with | .held => 0 | .released => 1 : Byte), BitVec.ofNat 8 port.val]
          | .odometer n => [0] ++ leBytes 4 n.toNat
          | .noticesLost n => leBytes 4 n.toNat)) ∧
  -- GAP and END (11.3, R176)
  (∀ (tag : Byte) (g : Gap),
    (TxFrame.gap tag g).kindByte = 0x83 ∧ (TxFrame.gap tag g).tag = tag ∧
    (TxFrame.gap tag g).payload = leBytes 4 g.count.toNat ++ leBytes 4 g.first.toNat ++ leBytes 4 g.last.toNat) ∧
  (∀ (tag : Byte) (entries depth : Nat) (gapOpen : Bool),
    (TxFrame.endTake tag entries depth gapOpen).kindByte = 0x84 ∧
    (TxFrame.endTake tag entries depth gapOpen).tag = tag ∧
    (TxFrame.endTake tag entries depth gapOpen).payload = leBytes 1 entries ++ leBytes 2 depth ++ [flagByte gapOpen]) ∧
  -- the codes and the item bytes (11.3 to 11.5)
  (flagByte false = 0 ∧ flagByte true = 1 ∧ BankRole.code .active = 0 ∧ BankRole.code .shadow = 1) ∧
  (RunState.code .idle = 0 ∧ RunState.code .running = 1 ∧ RunState.code .finishing = 2) ∧
  (Direction.code .still = 0 ∧ Direction.code .increasing = 1 ∧ Direction.code .decreasing = 2) ∧
  (CommitState.code .none = 0 ∧ CommitState.code .pending = 1 ∧ CommitState.code .copying = 2) ∧
  (CouplingState.code .unknown = 0 ∧ CouplingState.code .coupled = 1 ∧ CouplingState.code .doubt = 2 ∧
    CouplingState.code .uncoupled = 3) ∧
  (GateStatus.code .hit = 0 ∧ GateStatus.code .clear = 1 ∧ GateStatus.code .unsynced = 2) ∧
  (GateKind.code .coupling = 0 ∧ GateKind.code .peak = 1 ∧ GateKind.code .loss = 2) ∧
  ([FaultKind.couplingDuplicate, .couplingOrigin, .interfaceWithoutCoupling, .gateBeyondWindow, .phaseRange,
      .blockNotInUse, .chainLoop, .chainTooLong, .chainShared, .wrongRail, .joinAtHead, .joinChain,
      .joinSameProbe].map FaultKind.code = [1, 2, 3, 4, 5, 6, 7, 8, 9, 10, 11, 12, 13]) ∧
  (∀ x : StepSettings, settingsBytes x =
    [(match x.source with | .forward => 0 | .reverse => 1 | .timed => 2 : Byte)] ++ leBytes 2 x.pitch ++
      leBytes 4 x.period ++ [(match x.priority with | .fixed => 0 | .rotating => 1 : Byte), linkByte x.headA,
        linkByte x.headB]) ∧
  (∀ x : ProbeEntry, probeBytes x =
    leBytes 1 x.fields.level ++ leBytes 2 x.fields.pulseWidth ++ leBytes 1 x.fields.gain ++ leBytes 2 x.fields.window ++
      leBytes 2 x.fields.settle ++ leBytes 1 x.fields.lossRun ++ leBytes 1 x.fields.recoveryRun ++
      x.gates.toList.flatMap (fun g =>
        match g with
        | none => ([0, 0, 0, 0, 0, 0, 0, 0, 0] : List Byte)
        | some g => [1, g.kind.code, (match g.origin with | .pulse => 0 | .interface => 1 : Byte)] ++ leBytes 2 g.start ++
            leBytes 2 g.width ++ leBytes 2 g.threshold)) ∧
  (∀ x : Block, blockBytes x =
    [flagByte x.inUse, BitVec.ofNat 8 x.probe.val] ++ leBytes 1 x.decimation ++ leBytes 1 x.phase ++
      [flagByte x.join, (match x.report with | .always => 0 | .onEvent => 1 : Byte)] ++ leBytes 1 x.interval ++
      [(match x.excerptLen with | .l64 => 0 | .l128 => 1 | .l256 => 2 | .l512 => 3 : Byte), linkByte x.next]) ∧
  (linkByte none = 0 ∧ ∀ i : BlockIx, linkByte (some i) = BitVec.ofNat 8 (i.val + 1)) ∧
  -- the canonical form of a bank and its signature (R22, R178)
  (∀ b : Bank,
    let canonical := settingsBytes b.settings ++ b.probes.toList.flatMap probeBytes ++
      b.blocks.toList.flatMap (fun x => if x.inUse = true then blockBytes x else [0, 0, 1, 0, 0, 0, 0, 0, 0])
    signatureOf b = crc32 canonical ∧ canonical.length = 1690) ∧
  (∀ n < 32, (0xEDB88320#32).getLsbD n = (0x04C11DB7#32).getLsbD (31 - n)) ∧
  crc32 [] = ~~~ 0xFFFFFFFF#32 ∧
  ∀ (bs : List Byte) (b : Byte),
    crc32 (bs ++ [b]) = ~~~ ((List.range 8).foldl
      (fun c _ => if c.getLsbD 0 then (c >>> 1) ^^^ 0xEDB88320#32 else c >>> 1) (~~~ crc32 bs ^^^ b.setWidth 32))

/-- CONFIGURE PORT, SUBSCRIBE and GENERAL in range replace the port's own values and are answered DONE, the attention
line following a new threshold; out of range they name the first field out of range and change nothing. -/
def Obligations.PortSettingsAreReplaced : Prop :=
  (∀ (s : State) (p : Port) (tag : Byte) (hold threshold : BitVec 16), s.takesOn p → hold.toNat ≤ 2000 →
    1 ≤ threshold.toNat → threshold.toNat ≤ 256 →
    let d := { s.hub.dist p with threshold := threshold.toNat }
    let u := s.withHub ((s.hub.setDist p { d with attention := attentionOf s.hub.pool d }).setCtl p
      { s.hub.ctl p with holdTime := hold.toNat })
    ∃ t : State, exec (.configurePort p tag hold threshold) s = .next t ∧
      u.answeredBy p (.response tag 0x03 (.done .nothing)) t) ∧
  (∀ (s : State) (p : Port) (tag : Byte) (hold threshold : BitVec 16), s.takesOn p →
    2000 < hold.toNat ∨ threshold.toNat = 0 ∨ 256 < threshold.toNat →
    ∃ t : State, exec (.configurePort p tag hold threshold) s = .next t ∧
      s.answeredBy p (.response tag 0x03 (.refused (.range (if 2000 < hold.toNat then 1 else 2)))) t) ∧
  (∀ (s : State) (p : Port) (tag : Byte) (i : Fin 8) (x : Subscription), s.takesOn p →
    ∃ t : State, exec (.subscribe p tag (BitVec.ofNat 8 i.val) (x.matchVal.setWidth 8) (x.mask.setWidth 8)
        (if x.enabled then 1 else 0)) s = .next t ∧
      (s.withHub (s.hub.setDist p { s.hub.dist p with subs := (s.hub.dist p).subs.set i x })).answeredBy p
        (.response tag 0x04 (.done .nothing)) t) ∧
  (∀ (s : State) (p : Port) (tag entry matchVal mask enabled : Byte) (n : Nat), s.takesOn p →
    firstOutside n
      [decide (entry.toNat ≤ 7), decide (matchVal.toNat ≤ 63), decide (mask.toNat ≤ 63), decide (enabled.toNat ≤ 1)] →
    ∃ t : State, exec (.subscribe p tag entry matchVal mask enabled) s = .next t ∧
      s.answeredBy p (.response tag 0x04 (.refused (.range n))) t) ∧
  (∀ (s : State) (p : Port) (tag : Byte) (on : Bool), s.takesOn p →
    ∃ t : State, exec (.general p tag (if on then 1 else 0)) s = .next t ∧
      (s.withHub (s.hub.setDist p { s.hub.dist p with general := on })).answeredBy p
        (.response tag 0x05 (.done .nothing)) t) ∧
  ∀ (s : State) (p : Port) (tag flag : Byte), s.takesOn p → 1 < flag.toNat →
    ∃ t : State, exec (.general p tag flag) s = .next t ∧ s.answeredBy p (.response tag 0x05 (.refused (.range 1))) t

/-- SNAPSHOT makes an entry that is none or WAITING wait for the probe, and is refused BUSY while it is CLAIMED and
RANGE for a probe above 23; CANCEL SNAPSHOT sets the entry to none in every state. -/
def Obligations.SnapshotRequests : Prop :=
  (∀ (s : State) (p : Port) (tag : Byte) (i : ProbeNo), s.takesOn p →
    (∀ q n, (s.hub.dist p).snap ≠ .claimed q n) →
    ∃ t : State, exec (.snapshot p tag (BitVec.ofNat 8 i.val)) s = .next t ∧
      (s.withHub (s.hub.setDist p { s.hub.dist p with snap := .waiting i })).answeredBy p
        (.response tag 0x07 (.done .nothing)) t) ∧
  (∀ (s : State) (p : Port) (tag : Byte) (i q : ProbeNo) (n : Nat), s.takesOn p →
    (s.hub.dist p).snap = .claimed q n →
    ∃ t : State, exec (.snapshot p tag (BitVec.ofNat 8 i.val)) s = .next t ∧
      s.answeredBy p (.response tag 0x07 (.refused .busy)) t) ∧
  (∀ (s : State) (p : Port) (tag probe : Byte), s.takesOn p → 23 < probe.toNat →
    ∃ t : State, exec (.snapshot p tag probe) s = .next t ∧
      s.answeredBy p (.response tag 0x07 (.refused (.range 1))) t) ∧
  ∀ (s : State) (p : Port) (tag : Byte), s.takesOn p →
    ∃ t : State, exec (.cancelSnapshot p tag) s = .next t ∧
      (s.withHub (s.hub.setDist p { s.hub.dist p with snap := .none })).answeredBy p
        (.response tag 0x08 (.done .nothing)) t

/-! ## Plan editing and commit -/

/-- A request that needs the edit right, taken on a port that does not hold it, is refused NOT_HOLDER whatever else it
would have met, and changes nothing. -/
def Obligations.NotHolderComesFirst : Prop :=
  ∀ (c : Instr) (q : Request) (s : State), requestOf c = some q → c.wellFormed = true → needsRight q.kind = true →
    s.takesOn q.port → s.plan.holder ≠ some q.port →
    ∃ t : State, exec c s = .next t ∧ s.answeredBy q.port (.response q.tag q.kind (.refused .notHolder)) t

/-- CLAIM EDIT: with no holder the port becomes holder with the timer at 20 s; the holder restarts its timer;
another port is refused HELD_BY naming the holder. RELEASE EDIT by the holder and the expiry of the edit idle timer
lose the right: no holder, no timer, and in NONE a shadow copy is started; a pending commit and a copy go on. -/
def Obligations.TheEditRightIsGrantedAndLost : Prop :=
  (∀ (s : State) (p : Port) (tag : Byte), s.takesOn p → s.plan.holder = none ∨ s.plan.holder = some p →
    ∃ t : State, exec (.claimEdit p tag) s = .next t ∧
      State.answeredBy { s with plan := { s.plan with holder := some p, idleTimer := some 20 } } p
        (.response tag 0x0A (.done .nothing)) t) ∧
  (∀ (s : State) (p q : Port) (tag : Byte), s.takesOn p → s.plan.holder = some q → q ≠ p →
    ∃ t : State, exec (.claimEdit p tag) s = .next t ∧ s.answeredBy p (.response tag 0x0A (.refused (.heldBy q))) t) ∧
  (∀ (s : State) (p : Port) (tag : Byte), s.takesOn p → s.plan.holder = some p →
    ∃ t : State, exec (.releaseEdit p tag) s = .next t ∧
      State.answeredBy
        { s with plan := { s.plan with holder := none, idleTimer := none,
                                       commit := if s.plan.commit = .none then .copying else s.plan.commit } }
        p (.response tag 0x10 (.done .nothing)) t) ∧
  ∀ (s : State) (p : Port) (n : Nat), s.resetLow = false → s.plan.holder = some p → s.plan.idleTimer = some n →
    exec .editIdleTimerExpiry s =
      .next { s with plan := { s.plan with holder := none, idleTimer := none,
                                           commit := if s.plan.commit = .none then .copying else s.plan.commit } }

/-- A shadow-bank write by the holder in NONE replaces exactly the addressed item with the values carried, for every
item within the ranges, restarts the timer and is answered DONE. -/
def Obligations.ShadowWritesReplaceOneItem : Prop :=
  ∀ (s : State) (p : Port) (tag : Byte), s.takesOn p → s.plan.holder = some p → s.plan.commit = .none →
    let b := s.plan.shadowBank
    let done := fun (kind : Byte) (nb : Bank) (t : State) =>
      State.answeredBy { s with plan := { s.plan.setShadow nb with idleTimer := some 20 } } p
        (.response tag kind (.done .nothing)) t
    (∀ x : StepSettings, x.ranged →
      ∃ t : State, exec (.writeStepSettings p tag x.source.code (BitVec.ofNat 16 x.pitch) (BitVec.ofNat 32 x.period)
          x.priority.code (linkByte x.headA) (linkByte x.headB)) s = .next t ∧
        done 0x11 { b with settings := x } t) ∧
    (∀ (i : ProbeNo) (x : ProbeFields), x.ranged →
      ∃ t : State, exec (.writeProbe p tag (BitVec.ofNat 8 i.val) (BitVec.ofNat 8 x.level) (BitVec.ofNat 16 x.pulseWidth)
          (BitVec.ofNat 8 x.gain) (BitVec.ofNat 16 x.window) (BitVec.ofNat 16 x.settle) (BitVec.ofNat 8 x.lossRun)
          (BitVec.ofNat 8 x.recoveryRun)) s = .next t ∧
        done 0x12 { b with probes := b.probes.set i { b.probe i with fields := x } } t) ∧
    (∀ (i : ProbeNo) (place : Place) (g : Gate), g.ranged →
      ∃ t : State, exec (.writeGate p tag (BitVec.ofNat 8 i.val) (BitVec.ofNat 8 place.val) 1 g.kind.code g.origin.code
          (BitVec.ofNat 16 g.start) (BitVec.ofNat 16 g.width) (BitVec.ofNat 16 g.threshold)) s = .next t ∧
        done 0x13 { b with probes := b.probes.set i { b.probe i with
          gates := (b.probe i).gates.set place (some g) } } t) ∧
    (∀ (i : ProbeNo) (place : Place) (kind origin : Byte) (start width threshold : BitVec 16),
      ∃ t : State, exec (.writeGate p tag (BitVec.ofNat 8 i.val) (BitVec.ofNat 8 place.val) 0 kind origin start width
          threshold) s = .next t ∧
        done 0x13 { b with probes := b.probes.set i { b.probe i with
          gates := (b.probe i).gates.set place none } } t) ∧
    ∀ (i : BlockIx) (x : Block), x.ranged →
      ∃ t : State, exec (.writeBlock p tag (BitVec.ofNat 8 (i.val + 1)) (flagByte x.inUse) (BitVec.ofNat 8 x.probe.val)
          (BitVec.ofNat 8 x.decimation) (BitVec.ofNat 8 x.phase) (flagByte x.join) x.report.code
          (BitVec.ofNat 8 x.interval) x.excerptLen.code (linkByte x.next)) s = .next t ∧
        done 0x14 { b with blocks := b.blocks.set i x } t

/-- The holder's shadow-bank writes are refused BUSY unless the commit state is NONE, and in NONE refused RANGE with the
first field out of range; they change nothing. -/
def Obligations.ShadowWritesAreRefused : Prop :=
  ∀ (c : Instr) (q : Request) (s : State) (inside : List Bool), requestOf c = some q → s.takesOn q.port →
    s.plan.holder = some q.port →
    ((∃ p tag source pitch period priority headA headB,
        c = .writeStepSettings p tag source pitch period priority headA headB ∧
        inside =
          [decide (source.toNat ≤ 2), decide (4 ≤ pitch.toNat ∧ pitch.toNat ≤ 400),
            decide (100 ≤ period.toNat ∧ period.toNat ≤ 100000), decide (priority.toNat ≤ 1), decide (headA.toNat ≤ 64),
            decide (headB.toNat ≤ 64)]) ∨
      (∃ p tag probe level pulseWidth gain window settle lossRun recoveryRun,
        c = .writeProbe p tag probe level pulseWidth gain window settle lossRun recoveryRun ∧
        inside =
          [decide (probe.toNat ≤ 23), decide (1 ≤ level.toNat ∧ level.toNat ≤ 8),
            decide (50 ≤ pulseWidth.toNat ∧ pulseWidth.toNat ≤ 500), decide (gain.toNat ≤ 160),
            decide (200 ≤ window.toNat ∧ window.toNat ≤ 4000), decide (settle.toNat ≤ 500),
            decide (1 ≤ lossRun.toNat ∧ lossRun.toNat ≤ 15), decide (1 ≤ recoveryRun.toNat ∧ recoveryRun.toNat ≤ 15)]) ∨
      (∃ p tag probe place occupied kind origin start width threshold,
        c = .writeGate p tag probe place occupied kind origin start width threshold ∧
        inside =
          [decide (probe.toNat ≤ 23), decide (place.toNat ≤ 3), decide (occupied.toNat ≤ 1)] ++
            if occupied.toNat = 0 then []
            else
              [decide (kind.toNat ≤ 2), decide (origin.toNat ≤ 1), decide (start.toNat ≤ 3999),
                decide (1 ≤ width.toNat ∧ width.toNat ≤ 4000), decide (1 ≤ threshold.toNat ∧ threshold.toNat ≤ 1023)]) ∨
      (∃ p tag block inUse probe decimation phase join report interval lengthCode next,
        c = .writeBlock p tag block inUse probe decimation phase join report interval lengthCode next ∧
        inside =
          [decide (1 ≤ block.toNat ∧ block.toNat ≤ 64), decide (inUse.toNat ≤ 1), decide (probe.toNat ≤ 23),
            decide (1 ≤ decimation.toNat ∧ decimation.toNat ≤ 16), decide (phase.toNat ≤ 15), decide (join.toNat ≤ 1),
            decide (report.toNat ≤ 1), decide (interval.toNat ≤ 255), decide (lengthCode.toNat ≤ 3),
            decide (next.toNat ≤ 64)])) →
    (s.plan.commit ≠ .none →
      ∃ t : State, exec c s = .next t ∧ s.answeredBy q.port (.response q.tag q.kind (.refused .busy)) t) ∧
    ∀ n, s.plan.commit = .none → firstOutside n inside →
      ∃ t : State, exec c s = .next t ∧ s.answeredBy q.port (.response q.tag q.kind (.refused (.range n))) t

/-- COMMIT by the holder: BUSY unless NONE; a failed check is refused with its fault and changes nothing; a pass leaves
the commit PENDING, restarts the timer and is answered PENDING with the figures, whether the swap follows at once or
later. While a rail is in its cycle the commit stays PENDING and nothing else changes. With each rail OFF, or WAITING
without a pending step, outside FINISHING it is swapped at once, the checked bank becoming active with the next epoch
and its own signature; in IDLE nothing but the Plan Store, the fired counts, the pool and the ports changes. -/
def Obligations.CommitChecksThenPendsOrSwaps : Prop :=
  ∀ (s : State) (p : Port) (tag : Byte), s.takesOn p → s.plan.holder = some p →
    (s.plan.commit ≠ .none →
      ∃ t : State, exec (.commit p tag) s = .next t ∧ s.answeredBy p (.response tag 0x15 (.refused .busy)) t) ∧
    (∀ f, s.plan.commit = .none → commitCheck (decide (s.run.state ≠ .idle)) s.bank s.plan.shadowBank = .error f →
      ∃ t : State, exec (.commit p tag) s = .next t ∧ s.answeredBy p (.response tag 0x15
        (.refused (if f.kind = .runActive then .runActive else .invalid f))) t) ∧
    (∀ figs r, s.plan.commit = .none →
      commitCheck (decide (s.run.state ≠ .idle)) s.bank s.plan.shadowBank = .ok figs →
      (s.seq r).state = .requesting ∨ (s.seq r).state = .listening → s.hub.pool.lost = 0 →
      ∃ t : State, exec (.commit p tag) s = .next t ∧
        State.answeredBy { s with plan := { s.plan with commit := .pending, pendingSig := some figs.signature,
                                                        committer := some p, idleTimer := some 20 } }
          p (.response tag 0x15 (.pending figs)) t) ∧
    (∀ figs, s.plan.commit = .none →
      commitCheck (decide (s.run.state ≠ .idle)) s.bank s.plan.shadowBank = .ok figs →
      let u :=
        { s with
          plan := { s.plan with commit := .pending, pendingSig := some figs.signature, committer := some p }
          hub := s.hub.setCtl p (s.hub.ctl p).taken }
      let v := u.afterCycles.endPool
      ∃ t : State, exec (.commit p tag) s = .next t ∧
        State.answeredBy { v with plan := { v.plan with idleTimer := some 20 } } p (.response tag 0x15 (.pending figs)) t ∧
        ((∀ r, (s.seq r).state = .off ∨ ((s.seq r).state = .waiting ∧ (s.seq r).waiting = none)) →
          s.run.state ≠ .finishing →
          v = u.swapIfDue.endPool ∧ t.odo = s.odo ∧
            t.plan =
              { s.plan with
                activeIx := s.plan.activeIx + 1
                epoch := s.plan.epoch + 1
                signature := signatureOf s.plan.shadowBank
                commit := .copying
                pendingSig := none
                committer := none
                idleTimer := some 20 })) ∧
    ∀ figs, s.plan.commit = .none → commitCheck false s.bank s.plan.shadowBank = .ok figs → s.run.state = .idle →
      s.gen.state = .off → s.seqA.state = .off → s.seqB.state = .off →
      ∃ t : State, exec (.commit p tag) s = .next t ∧ (t.hub.ctl p).state = .answering ∧
        t.plan.activeBank = s.plan.shadowBank ∧ t.plan.shadowBank = s.plan.activeBank ∧
        t.plan.activeIx = s.plan.activeIx + 1 ∧ t.plan.epoch = s.plan.epoch + 1 ∧
        t.plan.signature = signatureOf s.plan.shadowBank ∧ t.plan.commit = .copying ∧ t.plan.holder = some p ∧
        t.plan.idleTimer = some 20 ∧ (∀ r, t.seq r = { s.seq r with fired := Vector.replicate 64 0 }) ∧
        t.run = s.run ∧ t.odo = s.odo ∧ t.gen = s.gen ∧ t.chans = s.chans ∧ t.arb = s.arb ∧ t.coup = s.coup

/-- A COMMIT is refused RUN_ACTIVE while a run is active and the step sources differ; else the bank is checked. Its first
fault is reported with its entry: the first gate place, by probe and place, that fails R18, then the first block in use
whose phase is not below its decimation, then the first fault of the walk of chain A, then of chain B. A bank without
one passes with its own signature and the sums over its groups of the longer window plus settle, at most 7200 µs for a
bank within its ranges. Its gates then meet R18, its phases R20, and its chains are of at most 16 blocks that follow the
next fields from the heads, all in use, each of its own rail and in one chain only; the first block has no join, and a
joined block follows one without join and of another probe. -/
def Obligations.CommitCheckPassesOrFindsTheFirstFault : Prop :=
  (∀ (run : Bool) (active shadow : Bank), commitCheck run active shadow =
    if run = true ∧ shadow.settings.source ≠ active.settings.source then
      .error { kind := .runActive, rail := none, block := none, probe := none, place := none }
    else checkBank shadow) ∧
  -- the conditions of a gate place (R18)
  (∀ (e : ProbeEntry) (i : Place),
    couplingBefore e i = true ↔ ∃ j g, j < i ∧ e.gates[j] = some g ∧ g.kind = .coupling) ∧
  (∀ (e : ProbeEntry) (j : Place) (c : Gate), couplingGateOf e = some (j, c) ↔
    e.gates[j] = some c ∧ c.kind = .coupling ∧ couplingBefore e j = false) ∧
  (∀ (e : ProbeEntry) (i : Place) (g : Gate),
    let a := g.kind = .coupling ∧ couplingBefore e i = true
    let b := g.kind = .coupling ∧ g.origin ≠ .pulse
    let c := g.origin = .interface ∧ couplingGateOf e = none
    let d := g.origin = .pulse ∧ e.fields.window < g.start + g.width
    let f := g.origin = .interface ∧ ∃ j x, couplingGateOf e = some (j, x) ∧
      e.fields.window < x.start + x.width + g.start + g.width
    (a → gateFault e i g = some .couplingDuplicate) ∧ (¬ a → b → gateFault e i g = some .couplingOrigin) ∧
    (¬ a → ¬ b → c → gateFault e i g = some .interfaceWithoutCoupling) ∧
    (¬ a → ¬ b → d ∨ f → gateFault e i g = some .gateBeyondWindow) ∧
    (¬ a → ¬ b → ¬ c → ¬ d → ¬ f → gateFault e i g = none)) ∧
  -- the conditions of a block reached in a walk, `before` holding the blocks reached before it, last first (R19)
  (∀ (b : Bank) (r : Rail) (taken before : List BlockIx) (i : BlockIx), blockFault b r taken before i =
    if (b.block i).inUse = false then some .blockNotInUse
    else if i ∈ before then some .chainLoop
    else if 16 ≤ before.length then some .chainTooLong
    else if i ∈ taken then some .chainShared
    else if railOf (b.block i).probe ≠ r then some .wrongRail
    else if (b.block i).join = true ∧ before = [] then some .joinAtHead
    else if (b.block i).join = true ∧ before.head?.map (fun j => (b.block j).join) = some true then some .joinChain
    else if (b.block i).join = true ∧ before.head?.map (fun j => (b.block j).probe) = some (b.block i).probe then
      some .joinSameProbe
    else none) ∧
  -- the first fault and its entry (R17)
  (∀ (b : Bank) (p : ProbeNo) (i : Place) (k : FaultKind), b.gateFaultAt p i = some k →
    (∀ p' i', p' < p ∨ (p' = p ∧ i' < i) → b.gateFaultAt p' i' = none) →
    checkBank b = .error { kind := k, rail := none, block := none, probe := some p, place := some i }) ∧
  (∀ (b : Bank) (i : BlockIx), (∀ p j, b.gateFaultAt p j = none) → (b.block i).inUse = true →
    (b.block i).decimation ≤ (b.block i).phase →
    (∀ j, j < i → (b.block j).inUse = true → (b.block j).phase < (b.block j).decimation) →
    checkBank b =
      .error { kind := .phaseRange, rail := none, block := some i, probe := some (b.block i).probe, place := none }) ∧
  (∀ (b : Bank) (r : Rail) (chainA before : List BlockIx) (i : BlockIx) (k : FaultKind), b.entriesPass →
    (match r with | .a => chainA = [] | .b => b.walked .a [] chainA ∧ b.linkAfter .a chainA = none) →
    b.walked r chainA before → b.linkAfter r before = some i → blockFault b r chainA before i = some k →
    checkBank b =
      .error
        { kind := k
          rail := some r
          block := some i
          probe := if k = .wrongRail ∨ k = .joinSameProbe then some (b.block i).probe else none
          place := none }) ∧
  (∀ (b : Bank) (chainA chainB : List BlockIx), b.entriesPass → b.walked .a [] chainA →
    b.linkAfter .a chainA = none → b.walked .b chainA chainB → b.linkAfter .b chainB = none →
    checkBank b =
      .ok { cycleA := cycleTime b chainA.reverse, cycleB := cycleTime b chainB.reverse, signature := signatureOf b }) ∧
  -- the figures (R21)
  (∀ b : Bank,
    let time := fun i : BlockIx =>
      (b.probe (b.block i).probe).fields.window + (b.probe (b.block i).probe).fields.settle
    cycleTime b [] = 0 ∧ (∀ i, cycleTime b [i] = time i) ∧
    (∀ i j rest, (b.block j).join = true → cycleTime b (i :: j :: rest) = max (time i) (time j) + cycleTime b rest) ∧
    ∀ i j rest, (b.block j).join = false → cycleTime b (i :: j :: rest) = time i + cycleTime b (j :: rest)) ∧
  -- a bank that passes
  ∀ (b : Bank) (figs : Figures), checkBank b = .ok figs →
    figs.signature = signatureOf b ∧ (b.ranged → figs.cycleA ≤ 72000 ∧ figs.cycleB ≤ 72000) ∧ b.entriesPass ∧
    ∃ chainA chainB : List BlockIx,
      (∀ r, let chain := (match r with | .a => chainA | .b => chainB)
        chain.length ≤ 16 ∧ chain.Nodup ∧ chain.head? = b.head r ∧
        (∀ i ∈ chain, (b.block i).inUse = true ∧ railOf (b.block i).probe = r ∧
          (b.block i).phase < (b.block i).decimation) ∧
        (∀ i, chain.head? = some i → (b.block i).join = false) ∧
        (∀ (k : Nat) (i : BlockIx), chain[k]? = some i → chain[k + 1]? = (b.block i).next) ∧
        ∀ (k : Nat) (i j : BlockIx), chain[k]? = some i → chain[k + 1]? = some j → (b.block j).join = true →
          (b.block i).join = false ∧ (b.block i).probe ≠ (b.block j).probe) ∧
      ∀ i ∈ chainA, i ∉ chainB

/-- ABANDON by the holder in NONE or PENDING starts a shadow copy and drops a pending commit; in COPYING it is refused
BUSY. The completion of the copy leaves the shadow bank equal to the active bank and the state NONE; without a copy in
progress it changes nothing (the model's choice for an event that cannot arise, log 6). -/
def Obligations.AbandonAndShadowCopy : Prop :=
  (∀ (s : State) (p : Port) (tag : Byte), s.takesOn p → s.plan.holder = some p → s.plan.commit ≠ .copying →
    ∃ t : State, exec (.abandon p tag) s = .next t ∧
      State.answeredBy
        { s with plan := { s.plan with
          commit := .copying
          pendingSig := if s.plan.commit = .pending then none else s.plan.pendingSig
          committer := if s.plan.commit = .pending then none else s.plan.committer
          idleTimer := some 20 } }
        p (.response tag 0x16 (.done .nothing)) t) ∧
  (∀ (s : State) (p : Port) (tag : Byte), s.takesOn p → s.plan.holder = some p → s.plan.commit = .copying →
    ∃ t : State, exec (.abandon p tag) s = .next t ∧ s.answeredBy p (.response tag 0x16 (.refused .busy)) t) ∧
  (∀ s : State, s.resetLow = false → s.plan.commit = .copying →
    exec .shadowCopyCompletion s =
      .next { s with plan := { s.plan with bank0 := s.plan.activeBank, bank1 := s.plan.activeBank,
                                           commit := .none } }) ∧
  ∀ s : State, s.resetLow = false → s.plan.commit ≠ .copying → exec .shadowCopyCompletion s = .next s

/-- The swap is due while a commit is PENDING and each rail is OFF, or WAITING without a pending step. At the swap the
banks change roles, the epoch rises by one modulo 65536, the pending signature becomes the active bank's, every fired
count returns to 0, the commit state is COPYING, and the next boundary of a run is L plus the new pitch; the PLAN notice
is handed over with the new values, and the right stands. Every step whose boundary F has reached is then issued, in
order, each ending the run if that becomes due, until none is left; that this holds also while d is below F is the
model's choice (log 33). A step issued is numbered, takes the position and reaches both rails; that rail A handles it
first (log 29) and that the requests of the cycles it begins form one pass (log 7) are the model's choices. -/
def Obligations.SwapExchangesTheBanks : Prop :=
  (∀ (s : State) (sig : BitVec 32) (p : Port),
    ∃ u : State,
      u.plan =
        { s.plan with
          activeIx := s.plan.activeIx + 1
          epoch := s.plan.epoch + 1
          signature := sig
          commit := .copying
          pendingSig := none
          committer := none } ∧
      u.plan.activeBank = s.plan.shadowBank ∧ u.plan.shadowBank = s.plan.activeBank ∧
      (∀ r, u.seq r = { s.seq r with fired := Vector.replicate 64 0 }) ∧
      { u with plan := s.plan, seqA := s.seqA, seqB := s.seqB } = s ∧
      s.swapBanks sig p =
        { u.handRecord (.plan u.plan.epoch sig u.plan.activeIx p) with
          gen := if s.gen.state = .off then s.gen
            else { s.gen with nextBoundary := s.gen.lastBoundary + s.plan.shadowBank.settings.pitch } }) ∧
  (∀ s : State, s.swapDue = true ↔ s.plan.commit = .pending ∧
    ∀ r, (s.seq r).state = .off ∨ ((s.seq r).state = .waiting ∧ (s.seq r).waiting = none)) ∧
  (∀ s : State, s.swapDue = false → s.swapIfDue = s) ∧
  (∀ (s : State) (sig : BitVec 32) (p : Port), s.swapDue = true → s.plan.pendingSig = some sig →
    s.plan.committer = some p →
    (∃ n, s.swapIfDue = State.issueReached n (s.swapBanks sig p)) ∧
    (1 ≤ s.plan.shadowBank.settings.pitch → ¬ s.swapIfDue.boundaryReached)) ∧
  (∀ s : State, State.issueReached 0 s = s) ∧
  (∀ (n : Nat) (s : State), ¬ s.boundaryReached → State.issueReached n s = s) ∧
  (∀ (n : Nat) (s : State), s.boundaryReached →
    State.issueReached (n + 1) s = State.issueReached n s.advanceBoundary.issue.completeIfDue) ∧
  (∀ s : State, s.advanceBoundary =
    { s with gen := { s.gen with lastBoundary := s.gen.nextBoundary
                                 nextBoundary := s.gen.nextBoundary + s.bank.settings.pitch } }) ∧
  ∀ s : State,
    let st : Step := { no := s.gen.stepNo + 1, pos := s.odo.position }
    let u := (State.stepArrives (State.stepArrives { s with gen := { s.gen with stepNo := st.no } } .a st) .b
      st).haltAtLimit
    s.issue = if s.seqA.state = .waiting ∨ s.seqB.state = .waiting then u.pass else u

/-! ## Odometer requests -/

/-- SET SCALER by the holder: RUN_ACTIVE outside IDLE; RANGE naming D when D is out of range, and N when N alone is
out of range or N exceeds 8·D; otherwise N and D are replaced and the remainder is 0. SET POSITION by the holder
replaces the position and clears the doubtful flag. SET MARKER by the holder replaces the configuration of the
marker named and sets its counter to 65,535; a field out of range is refused RANGE, that the first one is named being
the model's choice (log 31). Nothing else of the part changes but the restarted timer. -/
def Obligations.OdometerRequestsReplaceValues : Prop :=
  (∀ (s : State) (p : Port) (tag : Byte) (num den : BitVec 16), s.takesOn p → s.plan.holder = some p →
    (s.run.state ≠ .idle →
      ∃ t : State, exec (.setScaler p tag num den) s = .next t ∧
        s.answeredBy p (.response tag 0x17 (.refused .runActive)) t) ∧
    (s.run.state = .idle → ¬ (1 ≤ den.toNat ∧ den.toNat ≤ 4096) →
      ∃ t : State, exec (.setScaler p tag num den) s = .next t ∧
        s.answeredBy p (.response tag 0x17 (.refused (.range 2))) t) ∧
    (s.run.state = .idle → 1 ≤ den.toNat → den.toNat ≤ 4096 →
      ¬ (1 ≤ num.toNat ∧ num.toNat ≤ 4096 ∧ num.toNat ≤ 8 * den.toNat) →
      ∃ t : State, exec (.setScaler p tag num den) s = .next t ∧
        s.answeredBy p (.response tag 0x17 (.refused (.range 1))) t) ∧
    (s.run.state = .idle → 1 ≤ den.toNat → den.toNat ≤ 4096 → 1 ≤ num.toNat → num.toNat ≤ 4096 →
      num.toNat ≤ 8 * den.toNat →
      ∃ t : State, exec (.setScaler p tag num den) s = .next t ∧
        State.answeredBy
          { s with odo := { s.odo with num := num.toNat, den := den.toNat, rem := 0 },
                   plan := { s.plan with idleTimer := some 20 } }
          p (.response tag 0x17 (.done .nothing)) t)) ∧
  (∀ (s : State) (p : Port) (tag : Byte) (position : BitVec 32), s.takesOn p → s.plan.holder = some p →
    ∃ t : State, exec (.setPosition p tag position) s = .next t ∧
      State.answeredBy
        { s with odo := { s.odo with position := position, doubtful := false },
                 plan := { s.plan with idleTimer := some 20 } }
        p (.response tag 0x18 (.done .nothing)) t) ∧
  (∀ (s : State) (p : Port) (tag : Byte) (m : Marker) (on falling load : Bool) (lockout : BitVec 16)
      (value : BitVec 32), s.takesOn p → s.plan.holder = some p →
    ∃ t : State, exec (.setMarker p tag (match m with | .m0 => 0 | .m1 => 1) (flagByte on) (flagByte falling) lockout
        (flagByte load) value) s = .next t ∧
      State.answeredBy
        { s with
          odo := s.odo.setMarker m
            { enabled := on, edge := if falling then .falling else .rising, lockout := lockout.toNat,
              action := if load then .load else .mark, load := value, counter := 65535,
              level := (s.odo.marker m).level }
          plan := { s.plan with idleTimer := some 20 } }
        p (.response tag 0x19 (.done .nothing)) t) ∧
  ∀ (s : State) (p : Port) (tag marker enabled edge : Byte) (lockout : BitVec 16) (action : Byte) (load : BitVec 32)
      (n : Nat), s.takesOn p → s.plan.holder = some p →
    firstOutside n
      [decide (marker.toNat ≤ 1), decide (enabled.toNat ≤ 1), decide (edge.toNat ≤ 1), true, decide (action.toNat ≤ 1)] →
    ∃ t : State, exec (.setMarker p tag marker enabled edge lockout action load) s = .next t ∧
      s.answeredBy p (.response tag 0x19 (.refused (.range n))) t

/-! ## Run control and holds -/

/-- START RUN in IDLE advances the run number (65,535 to 1), takes the limit and the label, sets the generator, the
coupling states, the spray lines and both sequencers to their run-start values, hands over a RUN START record with last
step 0, and answers the new number; otherwise it is refused RUN_ACTIVE. -/
def Obligations.StartRunBeginsARun : Prop :=
  (∀ (s : State) (p : Port) (tag : Byte) (limit : BitVec 24) (label : BitVec 16), s.takesOn p →
    s.run.state = .idle →
    let number := if s.run.number = 0xFFFF#16 then 1 else s.run.number + 1
    let waiting : Sequencer := { state := .waiting, current := none, waiting := none, walk := none, group := [],
                                 windows := 0, fired := Vector.replicate 64 0, skip := none }
    ∃ t : State, exec (.startRun p tag limit label) s = .next t ∧
      State.answeredBy (State.endPool (State.handRecord
        { s with
          run := { s.run with state := .running, number := number, label := label, limit := limit }
          gen := { state := .issuing, source := s.bank.settings.source, disp := 0, frontier := 0, lastBoundary := 0,
                   nextBoundary := s.bank.settings.pitch, stepNo := 0,
                   timer := if s.bank.settings.source = .timed then some s.bank.settings.period else none }
          coup := { probes := Vector.replicate 24 { state := .unknown, misses := 0, recoveries := 0 },
                    sprayA := false, sprayB := false }
          seqA := waiting
          seqB := waiting
          hub := s.hub.setCtl p (s.hub.ctl p).taken }
        (.run .start label 0))) p (.response tag 0x0B (.done (.runNumber number))) t) ∧
  ∀ (s : State) (p : Port) (tag : Byte) (limit : BitVec 24) (label : BitVec 16), s.takesOn p →
    s.run.state ≠ .idle →
    ∃ t : State, exec (.startRun p tag limit label) s = .next t ∧
      s.answeredBy p (.response tag 0x0B (.refused .runActive)) t

/-- STOP RUN in RUNNING or FINISHING: the run is IDLE, both rails and the generator are OFF with nothing current, pending
or open, every channel is FREE, no request waits, the spray lines are off. The slots of the LISTENING channels' shots
are freed, their snapshot entries wait again, freed slots serve the pending list; a SKIP record for each open run, A
before B, precedes RUN STOPPED; a pending commit is then swapped; the answer is DONE. Nothing else changes. That this swap comes
with the run state already IDLE (log 19), and that the Gate Evaluators of SETTLING and HELD channels keep their values
(log 21), are DEDUCED. In IDLE it is refused NO_RUN. A run's last step, at its limit or number 4,294,967,295, halts the generator; FINISHING with both
rails WAITING without a pending step completes the run: SKIP records, RUN COMPLETED, IDLE. After a cycle's end both
that and the swap take place if due, in either order if both are, which is a free value (log 2). -/
def Obligations.RunsEndStoppedOrCompleted : Prop :=
  (∀ (s : State) (p : Port) (tag : Byte), s.takesOn p → s.run.state ≠ .idle →
    ∃ (dropped : List Nat) (h : Hub) (chans : Vector Channel 3) (u t : State),
      dropped = allChans.filterMap (fun c =>
        if s.chans[c].phase = .listening then s.chans[c].binding.map (fun b => b.slot) else none) ∧
      h.pool = dropped.foldl Pool.freeSlot s.hub.pool ∧
      (∀ q, h.ctl q = if q = p then (s.hub.ctl p).taken else s.hub.ctl q) ∧
      (∀ q, h.dist q =
        { s.hub.dist q with
          snap :=
            match (s.hub.dist q).snap with
            | .claimed i n => if n ∈ dropped then .waiting i else .claimed i n
            | .waiting i => .waiting i
            | .none => .none }) ∧
      (∀ c : Chan, chans[c] =
        if s.chans[c].phase = .free then s.chans[c]
        else
          { s.chans[c] with
            phase := .free
            binding := none
            fe := none
            eval := if s.chans[c].phase = .listening ∧ s.chans[c].binding.isSome then
                { gates := [], crossing := none, excerpt := none }
              else s.chans[c].eval }) ∧
      u =
        { s with
          run := { s.run with state := .idle }
          seqA := { s.seqA with state := .off, current := none, waiting := none, walk := none, group := [],
                                windows := 0, skip := none }
          seqB := { s.seqB with state := .off, current := none, waiting := none, walk := none, group := [],
                                windows := 0, skip := none }
          gen := { s.gen with state := .off, timer := none }
          chans := chans
          arb := { s.arb with reqA := none, reqB := none }
          coup := { s.coup with sprayA := false, sprayB := false }
          hub := (s.skipHanded .b (s.skipHanded .a h.drain)).hand
            (s.mkRec (.run .stopped s.run.label s.gen.stepNo)) } ∧
      exec (.stopRun p tag) s = .next t ∧
      u.swapIfDue.endPool.answeredBy p (.response tag 0x0C (.done .nothing)) t) ∧
  (∀ (s : State) (p : Port) (tag : Byte), s.takesOn p → s.run.state = .idle →
    ∃ t : State, exec (.stopRun p tag) s = .next t ∧ s.answeredBy p (.response tag 0x0C (.refused .noRun)) t) ∧
  (∀ s : State, s.haltAtLimit =
    if s.gen.stepNo.toNat = (if s.run.limit = 0 then 4294967295 else s.run.limit.toNat) then
      { s with gen := { s.gen with state := .halted, timer := none }, run := { s.run with state := .finishing } }
    else s) ∧
  (∀ s : State, s.completionDue = true ↔ s.run.state = .finishing ∧
    ∀ r, (s.seq r).state = .waiting ∧ (s.seq r).waiting = none) ∧
  (∀ s : State, s.complete =
    { s with
      run := { s.run with state := .idle }
      seqA := { s.seqA with state := .off, skip := none }
      seqB := { s.seqB with state := .off, skip := none }
      gen := { s.gen with state := .off, timer := none }
      coup := { s.coup with sprayA := false, sprayB := false }
      hub := (s.skipHanded .b (s.skipHanded .a s.hub)).hand (s.mkRec (.run .completed s.run.label s.gen.stepNo)) }) ∧
  (∀ s : State, s.completeIfDue = if s.completionDue = true then s.complete else s) ∧
  (∀ s : State, s.completionDue = false → s.afterCycles = s.swapIfDue) ∧
  (∀ s : State, s.completionDue = true → s.swapDue = false → s.afterCycles = s.complete) ∧
  ∀ s : State, s.completionDue = true → s.swapDue = true →
    let t := { s with freeCount := s.freeCount + 1 }
    (Config.swapBeforeCompletion s.freeCount = true → s.afterCycles = t.swapIfDue.completeIfDue) ∧
    (Config.swapBeforeCompletion s.freeCount = false → s.afterCycles = t.complete.swapIfDue)

/-- HOLD PROBE adds the port to the probe's hold set and is answered DONE; only a set that was empty gives a HOLD HELD
record, and where no REQUESTING group of the probe's rail names the probe nothing else changes; a probe above 23 is
refused RANGE. -/
def Obligations.HoldProbeAddsThePort : Prop :=
  (∀ (s : State) (p : Port) (tag : Byte) (i : ProbeNo), s.takesOn p → s.run.holds[i] ≠ 0 →
    ∃ t : State, exec (.holdProbe p tag (BitVec.ofNat 8 i.val)) s = .next t ∧
      State.answeredBy { s with run := { s.run with holds := s.run.holds.set i (portAdd p s.run.holds[i]) } } p
        (.response tag 0x0D (.done .nothing)) t) ∧
  (∀ (s : State) (p : Port) (tag : Byte) (i : ProbeNo), s.takesOn p → s.run.holds[i] = 0 →
    (s.seq (railOf i)).state ≠ .requesting ∨ (∀ b ∈ (s.seq (railOf i)).group, (s.bank.block b).probe ≠ i) →
    ∃ t : State, exec (.holdProbe p tag (BitVec.ofNat 8 i.val)) s = .next t ∧
      State.answeredBy (State.endPool (State.handRecord
        { s with run := { s.run with holds := s.run.holds.set i (portAdd p s.run.holds[i]) },
                 hub := s.hub.setCtl p (s.hub.ctl p).taken } (.hold i .held p))) p (.response tag 0x0D (.done .nothing)) t) ∧
  ∀ (s : State) (p : Port) (tag probe : Byte), s.takesOn p → 23 < probe.toNat →
    ∃ t : State, exec (.holdProbe p tag probe) s = .next t ∧
      s.answeredBy p (.response tag 0x0D (.refused (.range 1))) t

/-- A HOLD PROBE that finds the hold set empty, while the probe's rail is REQUESTING a group that names the probe, hands
over the HOLD HELD record and re-forms the group without the probe's blocks: its request is for the channels of those
that remain, or with none left it is withdrawn and the walk goes on; a pass is run, what follows a cycle's end takes
place, and the answer is DONE. No REQUESTING group of the rail then names the probe. That the record comes before the
re-forming is DEDUCED (log 17). -/
def Obligations.HeldProbesLeaveWaitingGroups : Prop :=
  (∀ (s : State) (p : Port) (tag : Byte) (i : ProbeNo), s.takesOn p → s.run.holds[i] = 0 →
    (s.seq (railOf i)).state = .requesting → (∃ b ∈ (s.seq (railOf i)).group, (s.bank.block b).probe = i) →
    let r := railOf i
    let g := (s.seq r).group.filter (fun b => (s.bank.block b).probe ≠ i)
    let u := State.handRecord
      { s with run := { s.run with holds := s.run.holds.set i (portAdd p s.run.holds[i]) },
               hub := s.hub.setCtl p (s.hub.ctl p).taken } (.hold i .held p)
    let v :=
      { u.setSeq r { s.seq r with group := g } with
        arb := s.arb.setReq r (if g = [] then none else some g.length) }
    ∃ t : State, exec (.holdProbe p tag (BitVec.ofNat 8 i.val)) s = .next t ∧
      State.answeredBy (State.endPool (State.afterCycles (State.pass (if g = [] then v.walkOn r else v)))) p
        (.response tag 0x0D (.done .nothing)) t) ∧
  ∀ (s : State) (p : Port) (tag : Byte) (i : ProbeNo), s.takesOn p → s.run.holds[i] = 0 →
    ∃ t : State, exec (.holdProbe p tag (BitVec.ofNat 8 i.val)) s = .next t ∧ portIn p t.run.holds[i] = true ∧
      ((t.seq (railOf i)).state = .requesting →
        ∀ b ∈ (t.seq (railOf i)).group, (t.bank.block b).probe ≠ i)

/-- RELEASE PROBE removes the port from the probe's hold set; only a set that becomes empty gives a HOLD RELEASED
record; a port that is not in the set is refused NOT_HELD, and a probe above 23 RANGE. -/
def Obligations.ReleaseProbeRemovesThePort : Prop :=
  (∀ (s : State) (p : Port) (tag : Byte) (i : ProbeNo), s.takesOn p → portIn p s.run.holds[i] = true →
    let u := fun h => { s with run := { s.run with holds := s.run.holds.set i (portRemove p s.run.holds[i]) },
                               hub := h }
    ∃ t : State, exec (.releaseProbe p tag (BitVec.ofNat 8 i.val)) s = .next t ∧
      State.answeredBy (State.endPool
        (if portRemove p s.run.holds[i] = 0 then
            State.handRecord (u (s.hub.setCtl p (s.hub.ctl p).taken)) (.hold i .released p)
          else u (s.hub.setCtl p (s.hub.ctl p).taken))) p (.response tag 0x0E (.done .nothing)) t) ∧
  (∀ (s : State) (p : Port) (tag : Byte) (i : ProbeNo), s.takesOn p → portIn p s.run.holds[i] = false →
    ∃ t : State, exec (.releaseProbe p tag (BitVec.ofNat 8 i.val)) s = .next t ∧
      s.answeredBy p (.response tag 0x0E (.refused .notHeld)) t) ∧
  ∀ (s : State) (p : Port) (tag probe : Byte), s.takesOn p → 23 < probe.toNat →
    ∃ t : State, exec (.releaseProbe p tag probe) s = .next t ∧
      s.answeredBy p (.response tag 0x0E (.refused (.range 1))) t

/-! ## Invariants -/

/-- Every invariant stated below holds of the state right after reset. -/
def Obligations.ResetMeetsEveryInvariant : Prop :=
  State.reset.banksRanged ∧ State.reset.activeChecked ∧ State.reset.odoRanged ∧ State.reset.frontierLeads ∧
    State.reset.runAgrees ∧ State.reset.sprayFollows ∧ State.reset.couplingRanged ∧ State.reset.poolSound ∧
    State.reset.portsSound ∧ State.reset.refsAgree ∧ State.reset.attentionFollows

/-- Every step keeps every field of both banks within its stored range. -/
def Obligations.StepsKeepBanksInRange : Prop :=
  ∀ s t : State, s.banksRanged → step s = .next t → t.banksRanged

/-- Every step keeps the active bank one that passes the commit check and whose signature is the one held, and a pending
commit's bank one that passes with the pending signature. -/
def Obligations.StepsKeepTheActiveBankChecked : Prop :=
  ∀ s t : State, s.activeChecked → step s = .next t → t.activeChecked

/-- Every step keeps the scaler, its remainder and the markers within their ranges, and the frontier at or above 0 and
the displacement. -/
def Obligations.StepsKeepTheTrackInRange : Prop :=
  (∀ s t : State, s.odoRanged → step s = .next t → t.odoRanged) ∧
  ∀ s t : State, s.frontierLeads → step s = .next t → t.frontierLeads

/-- Every step keeps run state, generator state and sequencer states in agreement. -/
def Obligations.StepsKeepTheRunInAgreement : Prop :=
  ∀ s t : State, s.runAgrees → step s = .next t → t.runAgrees

/-- Every step keeps the spray lines at their condition, and the runs of every probe within their ranges while both
banks are. -/
def Obligations.StepsKeepSprayAndCoupling : Prop :=
  (∀ s t : State, s.runAgrees → s.sprayFollows → step s = .next t → t.sprayFollows) ∧
  ∀ s t : State, s.banksRanged → s.couplingRanged → step s = .next t → t.couplingRanged

/-- Every step keeps the pool in its canonical form with no slot FREE while a record is pending, and its pages among the
48 of the Excerpt Store, none attached to two slots. -/
def Obligations.StepsKeepThePoolSound : Prop :=
  ∀ s t : State, s.poolSound → step s = .next t → t.poolSound

/-- Every step keeps every port's queue, refusal list and settings within their bounds, an ABSENT port at its reset
values and a held TAKE over an empty queue. -/
def Obligations.StepsKeepThePortsSound : Prop :=
  ∀ s t : State, s.portsSound → step s = .next t → t.portsSound

/-- Every step keeps the reference count of every QUEUED slot equal to the number of queues that hold a reference to its
record, and with it every attention line at its condition. -/
def Obligations.StepsKeepReferencesAndAttention : Prop :=
  (∀ s t : State, s.refsAgree → step s = .next t → t.refsAgree) ∧
  ∀ s t : State, s.refsAgree → s.attentionFollows → step s = .next t → t.attentionFollows
end

