-- ==== Sys2Proof/Laws/State.lean ====
section
/-! SUPPORT. One lemma per field and update of the state, the hub and the ports, so that no proof unfolds an update. -/

namespace Sys2Proof.Machine

/-! ## Ports of the hub -/

@[simp] theorem Hub.pool_setPort (h : Hub) (p : Port) (u : PortUnit) : (h.setPort p u).pool = h.pool := rfl

theorem Hub.ports_setPort (h : Hub) (p q : Port) (u : PortUnit) :
    (h.setPort p u).ports[q] = if q = p then u else h.ports[q] := by
  by_cases e : q = p
  · subst e; simp [Hub.setPort]
  · have : p.val ≠ q.val := fun c => e (Fin.ext c.symm)
    simp [Hub.setPort, e, this]

@[simp] theorem Hub.pool_setCtl (h : Hub) (p : Port) (c : PortCtl) : (h.setCtl p c).pool = h.pool := rfl
@[simp] theorem Hub.pool_setDist (h : Hub) (p : Port) (d : PortDist) : (h.setDist p d).pool = h.pool := rfl
@[simp] theorem Hub.pool_putDist (h : Hub) (p : Port) (d : PortDist) : (h.putDist p d).pool = h.pool := rfl

theorem Hub.ctl_setCtl (h : Hub) (p q : Port) (c : PortCtl) :
    (h.setCtl p c).ctl q = if q = p then c else h.ctl q := by
  unfold Hub.ctl Hub.setCtl
  rw [Hub.ports_setPort]
  split <;> rfl

theorem Hub.ctl_setDist (h : Hub) (p q : Port) (d : PortDist) : (h.setDist p d).ctl q = h.ctl q := by
  unfold Hub.ctl Hub.setDist
  rw [Hub.ports_setPort]
  split
  · next e => subst e; rfl
  · rfl

theorem Hub.dist_setCtl (h : Hub) (p q : Port) (c : PortCtl) : (h.setCtl p c).dist q = h.dist q := by
  unfold Hub.dist Hub.setCtl
  rw [Hub.ports_setPort]
  split
  · next e => subst e; rfl
  · rfl

theorem Hub.dist_setDist (h : Hub) (p q : Port) (d : PortDist) :
    (h.setDist p d).dist q = if q = p then d else h.dist q := by
  unfold Hub.dist Hub.setDist
  rw [Hub.ports_setPort]
  split <;> rfl

@[simp] theorem Hub.ctl_setCtl_self (h : Hub) (p : Port) (c : PortCtl) : (h.setCtl p c).ctl p = c := by
  simp [Hub.ctl_setCtl]

@[simp] theorem Hub.dist_setDist_self (h : Hub) (p : Port) (d : PortDist) : (h.setDist p d).dist p = d := by
  simp [Hub.dist_setDist]

@[simp] theorem Hub.ctl_setDist' (h : Hub) (p q : Port) (d : PortDist) : (h.setDist p d).ctl q = h.ctl q :=
  Hub.ctl_setDist h p q d

@[simp] theorem Hub.dist_setCtl' (h : Hub) (p q : Port) (c : PortCtl) : (h.setCtl p c).dist q = h.dist q :=
  Hub.dist_setCtl h p q c

@[simp] theorem Hub.ctl_putDist (h : Hub) (p q : Port) (d : PortDist) : (h.putDist p d).ctl q = h.ctl q :=
  Hub.ctl_setDist h p q _

theorem Hub.dist_putDist (h : Hub) (p q : Port) (d : PortDist) :
    (h.putDist p d).dist q = if q = p then { d with attention := attentionOf h.pool d } else h.dist q :=
  Hub.dist_setDist h p q _

@[simp] theorem Hub.pool_withPool (h : Hub) (x : Pool) : (h.withPool x).pool = x := rfl
@[simp] theorem Hub.ports_withPool (h : Hub) (x : Pool) : (h.withPool x).ports = h.ports := rfl
@[simp] theorem Hub.ctl_withPool (h : Hub) (x : Pool) (q : Port) : (h.withPool x).ctl q = h.ctl q := rfl
@[simp] theorem Hub.dist_withPool (h : Hub) (x : Pool) (q : Port) : (h.withPool x).dist q = h.dist q := rfl

/-! Two hubs with one pool, equal controllers and equal distribution states are equal. -/

theorem Hub.ext_ports {h k : Hub} (hp : h.pool = k.pool) (hc : ∀ q, h.ctl q = k.ctl q)
    (hd : ∀ q, h.dist q = k.dist q) : h = k := by
  obtain ⟨pool, ports⟩ := h
  obtain ⟨pool', ports'⟩ := k
  simp only at hp
  subst hp
  have : ports = ports' := by
    apply Vector.ext
    intro i hi
    have h1 := hc ⟨i, hi⟩
    have h2 := hd ⟨i, hi⟩
    simp only [Hub.ctl, Hub.dist] at h1 h2
    have e1 : ports[i].ctl = ports'[i].ctl := h1
    have e2 : ports[i].dist = ports'[i].dist := h2
    revert e1 e2
    generalize ports[i] = u
    generalize ports'[i] = v
    intro e1 e2
    cases u; cases v; simp_all
  rw [this]

theorem Hub.setCtl_setCtl (h : Hub) (p : Port) (c d : PortCtl) : (h.setCtl p c).setCtl p d = h.setCtl p d := by
  apply Hub.ext_ports
  · rfl
  · intro q; simp only [Hub.ctl_setCtl]; split <;> simp_all
  · intro q; simp

theorem Hub.setCtl_self (h : Hub) (p : Port) : h.setCtl p (h.ctl p) = h := by
  apply Hub.ext_ports
  · rfl
  · intro q; simp only [Hub.ctl_setCtl]; split <;> simp_all
  · intro q; simp

theorem Hub.setDist_setCtl (h : Hub) (p : Port) (c : PortCtl) (d : PortDist) :
    (h.setCtl p c).setDist p d = (h.setDist p d).setCtl p c := by
  apply Hub.ext_ports
  · rfl
  · intro q; simp [Hub.ctl_setCtl]
  · intro q; simp [Hub.dist_setDist]

theorem Hub.putDist_setCtl (h : Hub) (p : Port) (c : PortCtl) (d : PortDist) :
    (h.setCtl p c).putDist p d = (h.putDist p d).setCtl p c :=
  Hub.setDist_setCtl h p c _

/-! ## Fields of the state after each update -/

section withHub
variable (s : State) (h : Hub)
@[simp] theorem State.resetLow_withHub : (s.withHub h).resetLow = s.resetLow := rfl
@[simp] theorem State.plan_withHub : (s.withHub h).plan = s.plan := rfl
@[simp] theorem State.odo_withHub : (s.withHub h).odo = s.odo := rfl
@[simp] theorem State.gen_withHub : (s.withHub h).gen = s.gen := rfl
@[simp] theorem State.seqA_withHub : (s.withHub h).seqA = s.seqA := rfl
@[simp] theorem State.seqB_withHub : (s.withHub h).seqB = s.seqB := rfl
@[simp] theorem State.chans_withHub : (s.withHub h).chans = s.chans := rfl
@[simp] theorem State.arb_withHub : (s.withHub h).arb = s.arb := rfl
@[simp] theorem State.coup_withHub : (s.withHub h).coup = s.coup := rfl
@[simp] theorem State.hub_withHub : (s.withHub h).hub = h := rfl
@[simp] theorem State.run_withHub : (s.withHub h).run = s.run := rfl
@[simp] theorem State.freeCount_withHub : (s.withHub h).freeCount = s.freeCount := rfl
@[simp] theorem State.pending_withHub : (s.withHub h).pending = s.pending := rfl
@[simp] theorem State.withHub_withHub (k : Hub) : (s.withHub h).withHub k = s.withHub k := rfl
@[simp] theorem State.withHub_self : s.withHub s.hub = s := rfl
@[simp] theorem State.bank_withHub : (s.withHub h).bank = s.bank := rfl
@[simp] theorem State.seq_withHub (r : Rail) : (s.withHub h).seq r = s.seq r := by cases r <;> rfl
end withHub

section setSeq
variable (s : State) (r : Rail) (x : Sequencer)
@[simp] theorem State.resetLow_setSeq : (s.setSeq r x).resetLow = s.resetLow := by cases r <;> rfl
@[simp] theorem State.plan_setSeq : (s.setSeq r x).plan = s.plan := by cases r <;> rfl
@[simp] theorem State.odo_setSeq : (s.setSeq r x).odo = s.odo := by cases r <;> rfl
@[simp] theorem State.gen_setSeq : (s.setSeq r x).gen = s.gen := by cases r <;> rfl
@[simp] theorem State.chans_setSeq : (s.setSeq r x).chans = s.chans := by cases r <;> rfl
@[simp] theorem State.arb_setSeq : (s.setSeq r x).arb = s.arb := by cases r <;> rfl
@[simp] theorem State.coup_setSeq : (s.setSeq r x).coup = s.coup := by cases r <;> rfl
@[simp] theorem State.hub_setSeq : (s.setSeq r x).hub = s.hub := by cases r <;> rfl
@[simp] theorem State.run_setSeq : (s.setSeq r x).run = s.run := by cases r <;> rfl
@[simp] theorem State.freeCount_setSeq : (s.setSeq r x).freeCount = s.freeCount := by cases r <;> rfl
@[simp] theorem State.pending_setSeq : (s.setSeq r x).pending = s.pending := by cases r <;> rfl
@[simp] theorem State.bank_setSeq : (s.setSeq r x).bank = s.bank := by cases r <;> rfl
@[simp] theorem State.seq_setSeq : (s.setSeq r x).seq r = x := by cases r <;> rfl
@[simp] theorem State.seq_setSeq_other : (s.setSeq r x).seq r.other = s.seq r.other := by cases r <;> rfl
theorem State.seq_setSeq_of (q : Rail) : (s.setSeq r x).seq q = if q = r then x else s.seq q := by
  cases r <;> cases q <;> rfl
end setSeq

section setChan
variable (s : State) (c : Chan) (x : Channel)
@[simp] theorem State.resetLow_setChan : (s.setChan c x).resetLow = s.resetLow := rfl
@[simp] theorem State.plan_setChan : (s.setChan c x).plan = s.plan := rfl
@[simp] theorem State.odo_setChan : (s.setChan c x).odo = s.odo := rfl
@[simp] theorem State.gen_setChan : (s.setChan c x).gen = s.gen := rfl
@[simp] theorem State.seqA_setChan : (s.setChan c x).seqA = s.seqA := rfl
@[simp] theorem State.seqB_setChan : (s.setChan c x).seqB = s.seqB := rfl
@[simp] theorem State.arb_setChan : (s.setChan c x).arb = s.arb := rfl
@[simp] theorem State.coup_setChan : (s.setChan c x).coup = s.coup := rfl
@[simp] theorem State.hub_setChan : (s.setChan c x).hub = s.hub := rfl
@[simp] theorem State.run_setChan : (s.setChan c x).run = s.run := rfl
@[simp] theorem State.freeCount_setChan : (s.setChan c x).freeCount = s.freeCount := rfl
@[simp] theorem State.pending_setChan : (s.setChan c x).pending = s.pending := rfl
@[simp] theorem State.bank_setChan : (s.setChan c x).bank = s.bank := rfl
@[simp] theorem State.seq_setChan (r : Rail) : (s.setChan c x).seq r = s.seq r := by cases r <;> rfl
@[simp] theorem State.chans_setChan_self : (s.setChan c x).chans[c.val] = x := by simp [State.setChan]
theorem State.chans_setChan_of (d : Chan) : (s.setChan c x).chans[d] = if d = c then x else s.chans[d] := by
  by_cases e : d = c
  · subst e; simp
  · have : c.val ≠ d.val := fun h => e (Fin.ext h.symm)
    simp [State.setChan, e, this]
end setChan

@[simp] theorem Arbiter.req_setReq (a : Arbiter) (r : Rail) (k : Option Nat) : (a.setReq r k).req r = k := by
  cases r <;> rfl

@[simp] theorem Arbiter.req_setReq_other (a : Arbiter) (r : Rail) (k : Option Nat) :
    (a.setReq r k).req r.other = a.req r.other := by cases r <;> rfl

@[simp] theorem Arbiter.pointer_setReq (a : Arbiter) (r : Rail) (k : Option Nat) :
    (a.setReq r k).pointer = a.pointer := by cases r <;> rfl

@[simp] theorem Rail.other_other (r : Rail) : r.other.other = r := by cases r <;> rfl

theorem Rail.other_ne (r : Rail) : r.other ≠ r := by cases r <;> simp [Rail.other]

end Sys2Proof.Machine
end

