-- ==== Sys2Proof/Laws/Pool.lean ====
section
/-! SUPPORT. The list of numbered cells and the slots of the pool: what each operation does to the cell of a number, and
that each keeps the canonical form. -/

namespace Sys2Proof.Machine

/-! ## Numbered cells -/

theorem Cells.find_of_rising {α : Type} {lo k : Nat} {l : List (Nat × α)} (h : Cells.risingFrom lo l = true)
    (hk : k < lo) : Cells.find k l = none := by
  induction l generalizing lo with
  | nil => rfl
  | cons c rest ih =>
    obtain ⟨j, x⟩ := c
    simp only [Cells.risingFrom, Bool.and_eq_true, decide_eq_true_eq] at h
    have : j ≠ k := by omega
    simp only [Cells.find, this, if_false]
    exact ih h.2 (by omega)

theorem Cells.find_put {α : Type} {lo : Nat} {l : List (Nat × α)} (h : Cells.risingFrom lo l = true) (k m : Nat)
    (x : α) : Cells.find m (Cells.put k x l) = if m = k then some x else Cells.find m l := by
  induction l generalizing lo with
  | nil => simp only [Cells.put, Cells.find]; split <;> split <;> simp_all
  | cons c rest ih =>
    obtain ⟨j, y⟩ := c
    simp only [Cells.risingFrom, Bool.and_eq_true, decide_eq_true_eq] at h
    simp only [Cells.put]
    by_cases h1 : k < j
    · simp only [h1, if_true, Cells.find]
      by_cases e : m = k
      · simp [e]
      · simp [e, Ne.symm e]
    · by_cases h2 : k = j
      · subst h2
        simp only [lt_irrefl, if_false, if_true, Cells.find]
        by_cases e : m = k
        · simp [e]
        · simp [e, Ne.symm e]
      · simp only [h1, h2, if_false, Cells.find]
        by_cases e : j = m
        · have : m ≠ k := by omega
          simp [e, this]
        · simp [e, ih h.2]

theorem Cells.rising_put {α : Type} {lo : Nat} {l : List (Nat × α)} (h : Cells.risingFrom lo l = true) (k : Nat)
    (x : α) (hk : lo ≤ k) : Cells.risingFrom lo (Cells.put k x l) = true := by
  induction l generalizing lo with
  | nil => simp [Cells.put, Cells.risingFrom, hk]
  | cons c rest ih =>
    obtain ⟨j, y⟩ := c
    simp only [Cells.risingFrom, Bool.and_eq_true, decide_eq_true_eq] at h
    simp only [Cells.put]
    by_cases h1 : k < j
    · simp only [h1, if_true, Cells.risingFrom, Bool.and_eq_true, decide_eq_true_eq]
      exact ⟨hk, by omega, h.2⟩
    · by_cases h2 : k = j
      · subst h2; simp [Cells.risingFrom, h.2, hk]
      · simp only [h1, h2, if_false, Cells.risingFrom, Bool.and_eq_true, decide_eq_true_eq]
        exact ⟨h.1, ih h.2 (by omega)⟩

theorem Cells.find_erase {α : Type} {lo : Nat} {l : List (Nat × α)} (h : Cells.risingFrom lo l = true) (k m : Nat) :
    Cells.find m (Cells.erase k l) = if m = k then none else Cells.find m l := by
  induction l generalizing lo with
  | nil => simp [Cells.erase, Cells.find]
  | cons c rest ih =>
    obtain ⟨j, y⟩ := c
    simp only [Cells.risingFrom, Bool.and_eq_true, decide_eq_true_eq] at h
    simp only [Cells.erase]
    by_cases e : j = k
    · subst e
      simp only [if_true, Cells.find]
      by_cases e2 : m = j
      · subst e2
        simp only [if_true]
        exact Cells.find_of_rising h.2 (by omega)
      · simp [e2, Ne.symm e2]
    · simp only [e, if_false, Cells.find]
      by_cases e2 : j = m
      · have : m ≠ k := by omega
        simp [e2, this]
      · simp [e2, ih h.2]

theorem Cells.rising_weaken {α : Type} {lo hi : Nat} {l : List (Nat × α)} (h : Cells.risingFrom hi l = true)
    (hl : lo ≤ hi) : Cells.risingFrom lo l = true := by
  cases l with
  | nil => rfl
  | cons c rest =>
    simp only [Cells.risingFrom, Bool.and_eq_true, decide_eq_true_eq] at h ⊢
    exact ⟨by omega, h.2⟩

theorem Cells.rising_erase {α : Type} {lo : Nat} {l : List (Nat × α)} (h : Cells.risingFrom lo l = true) (k : Nat) :
    Cells.risingFrom lo (Cells.erase k l) = true := by
  induction l generalizing lo with
  | nil => rfl
  | cons c rest ih =>
    obtain ⟨j, y⟩ := c
    simp only [Cells.risingFrom, Bool.and_eq_true, decide_eq_true_eq] at h
    simp only [Cells.erase]
    split
    · exact Cells.rising_weaken h.2 (by omega)
    · simp only [Cells.risingFrom, Bool.and_eq_true, decide_eq_true_eq]
      exact ⟨h.1, ih h.2⟩

theorem Cells.le_firstFree {α : Type} (lo : Nat) (l : List (Nat × α)) : lo ≤ Cells.firstFree lo l := by
  induction l generalizing lo with
  | nil => exact le_rfl
  | cons c rest ih =>
    obtain ⟨j, y⟩ := c
    simp only [Cells.firstFree]
    split
    · exact le_trans (Nat.le_succ lo) (ih (lo + 1))
    · exact le_rfl

theorem Cells.firstFree_le {α : Type} (lo : Nat) (l : List (Nat × α)) : Cells.firstFree lo l ≤ lo + l.length := by
  induction l generalizing lo with
  | nil => simp [Cells.firstFree]
  | cons c rest ih =>
    obtain ⟨j, y⟩ := c
    simp only [Cells.firstFree]
    split
    · have := ih (lo + 1)
      simp only [List.length_cons]
      omega
    · simp

/-- The number found free is that of no cell. -/
theorem Cells.find_firstFree {α : Type} {lo : Nat} {l : List (Nat × α)} (h : Cells.risingFrom lo l = true) :
    Cells.find (Cells.firstFree lo l) l = none := by
  induction l generalizing lo with
  | nil => rfl
  | cons c rest ih =>
    obtain ⟨j, y⟩ := c
    simp only [Cells.risingFrom, Bool.and_eq_true, decide_eq_true_eq] at h
    simp only [Cells.firstFree]
    split
    · next e =>
      subst e
      have hj := Cells.le_firstFree (j + 1) rest
      have : j ≠ Cells.firstFree (j + 1) rest := by omega
      simp only [Cells.find, this, if_false]
      exact ih h.2
    · next e =>
      simp only [Cells.find, e, if_false]
      exact Cells.find_of_rising h.2 (by omega)

theorem Cells.mem_put {α : Type} {k : Nat} {x : α} {l : List (Nat × α)} {c : Nat × α} (h : c ∈ Cells.put k x l) :
    c = (k, x) ∨ c ∈ l := by
  induction l with
  | nil => simpa [Cells.put] using h
  | cons d rest ih =>
    obtain ⟨j, y⟩ := d
    simp only [Cells.put] at h
    split at h
    · simpa using h
    · split at h
      · rcases List.mem_cons.1 h with h | h
        · exact Or.inl h
        · exact Or.inr (List.mem_cons_of_mem _ h)
      · rcases List.mem_cons.1 h with h | h
        · exact Or.inr (h ▸ List.mem_cons_self)
        · rcases ih h with h | h
          · exact Or.inl h
          · exact Or.inr (List.mem_cons_of_mem _ h)

theorem Cells.mem_erase {α : Type} {k : Nat} {l : List (Nat × α)} {c : Nat × α} (h : c ∈ Cells.erase k l) : c ∈ l := by
  induction l with
  | nil => simp [Cells.erase] at h
  | cons d rest ih =>
    obtain ⟨j, y⟩ := d
    simp only [Cells.erase] at h
    split at h
    · exact List.mem_cons_of_mem _ h
    · rcases List.mem_cons.1 h with h | h
      · exact h ▸ List.mem_cons_self
      · exact List.mem_cons_of_mem _ (ih h)

theorem Cells.mem_of_find {α : Type} {k : Nat} {x : α} {l : List (Nat × α)} (h : Cells.find k l = some x) :
    (k, x) ∈ l := by
  induction l with
  | nil => simp [Cells.find] at h
  | cons d rest ih =>
    obtain ⟨j, y⟩ := d
    simp only [Cells.find] at h
    split at h
    · next e => subst e; cases h; exact List.mem_cons_self
    · exact List.mem_cons_of_mem _ (ih h)

/-! ## The pool -/

theorem Pool.wf_iff (p : Pool) :
    p.wf = true ↔ Cells.risingFrom 0 p.slots = true ∧ ∀ c ∈ p.slots, c.1 < Config.slotCount := by
  simp [Pool.wf]

theorem Pool.wf_putSlot {p : Pool} (h : p.wf = true) {n : Nat} (hn : n < Config.slotCount) (x : Slot) :
    (p.putSlot n x).wf = true := by
  rw [Pool.wf_iff] at h ⊢
  refine ⟨Cells.rising_put h.1 n x (Nat.zero_le n), ?_⟩
  intro c hc
  rcases Cells.mem_put hc with rfl | hc
  · exact hn
  · exact h.2 c hc

theorem Pool.wf_freeSlot {p : Pool} (h : p.wf = true) (n : Nat) : (p.freeSlot n).wf = true := by
  rw [Pool.wf_iff] at h ⊢
  exact ⟨Cells.rising_erase h.1 n, fun c hc => h.2 c (Cells.mem_erase hc)⟩

theorem Pool.slot_lt {p : Pool} (h : p.wf = true) {n : Nat} {x : Slot} (hx : p.slot n = some x) :
    n < Config.slotCount := ((Pool.wf_iff p).1 h).2 _ (Cells.mem_of_find hx)

theorem Pool.slot_putSlot {p : Pool} (h : p.wf = true) (n m : Nat) (x : Slot) :
    (p.putSlot n x).slot m = if m = n then some x else p.slot m :=
  Cells.find_put ((Pool.wf_iff p).1 h).1 n m x

theorem Pool.slot_freeSlot {p : Pool} (h : p.wf = true) (n m : Nat) :
    (p.freeSlot n).slot m = if m = n then none else p.slot m :=
  Cells.find_erase ((Pool.wf_iff p).1 h).1 n m

/-- The slot taken by a record is FREE before, and one of the 1024. -/
theorem Pool.firstFreeSlot_free {p : Pool} (h : p.wf = true) {n : Nat} (hn : p.firstFreeSlot = some n) :
    p.slot n = none ∧ n < Config.slotCount := by
  unfold Pool.firstFreeSlot at hn
  split at hn
  · cases hn
    exact ⟨Cells.find_firstFree ((Pool.wf_iff p).1 h).1, by assumption⟩
  · cases hn

theorem Pool.wf_setContent {p : Pool} (h : p.wf = true) (n : Nat) (c : Content) : (p.setContent n c).wf = true := by
  unfold Pool.setContent
  split
  · next x hx => exact Pool.wf_putSlot h (Pool.slot_lt h hx) _
  · exact h

theorem Pool.wf_finishFanOut {p : Pool} (h : p.wf = true) (n refs : Nat) : (p.finishFanOut n refs).wf = true := by
  unfold Pool.finishFanOut
  split
  · exact Pool.wf_freeSlot h n
  · split
    · next x hx => exact Pool.wf_putSlot h (Pool.slot_lt h hx) _
    · exact h

/-- The first free number after the removal of a cell below which no number is free. -/
theorem Cells.firstFree_erase {α : Type} (n lo : Nat) (l : List (Nat × α)) (h : Cells.risingFrom lo l = true)
    (hn : lo ≤ n) (hf : ∀ m, lo ≤ m → m < n → Cells.find m l ≠ none) (x : α) (hx : Cells.find n l = some x) :
    Cells.firstFree lo (Cells.erase n l) = n := by
  induction l generalizing lo with
  | nil => simp [Cells.find] at hx
  | cons c rest ih =>
    obtain ⟨j, y⟩ := c
    simp only [Cells.risingFrom, Bool.and_eq_true, decide_eq_true_eq] at h
    simp only [Cells.erase]
    have low : lo < j → Cells.find lo ((j, y) :: rest) = none := fun hlt => by
      simp only [Cells.find, if_neg (show ¬ j = lo by omega)]
      exact Cells.find_of_rising h.2 (by omega)
    by_cases e : j = n
    · subst e
      obtain rfl : lo = j := by
        by_contra hne
        exact hf lo (le_refl _) (by omega) (low (by omega))
      rw [if_pos rfl]
      cases rest with
      | nil => rfl
      | cons d more =>
        obtain ⟨k, z⟩ := d
        have hk := h.2
        simp only [Cells.risingFrom, Bool.and_eq_true, decide_eq_true_eq] at hk
        simp only [Cells.firstFree, if_neg (show ¬ k = lo by omega)]
    · simp only [if_neg e, Cells.firstFree]
      have hjn : j < n := by
        by_contra hc
        have hnone : Cells.find n ((j, y) :: rest) = none := by
          simp only [Cells.find, if_neg e]
          exact Cells.find_of_rising h.2 (by omega)
        rw [hnone] at hx
        cases hx
      obtain rfl : j = lo := by
        by_contra hne
        exact hf lo (le_refl _) (by omega) (low (by omega))
      rw [if_pos rfl]
      refine ih (j + 1) h.2 (by omega) (fun m h1 h2 => ?_) ?_
      · have hm := hf m (by omega) h2
        simpa [Cells.find, if_neg (show ¬ j = m by omega)] using hm
      · simpa [Cells.find, if_neg e] using hx

/-- No number below the first free one is free. -/
theorem Cells.find_below_firstFree {α : Type} (lo m : Nat) (l : List (Nat × α)) (h1 : lo ≤ m)
    (h2 : m < Cells.firstFree lo l) : Cells.find m l ≠ none := by
  induction l generalizing lo with
  | nil => simp [Cells.firstFree] at h2; omega
  | cons c rest ih =>
    obtain ⟨j, y⟩ := c
    simp only [Cells.firstFree] at h2
    split at h2
    · simp only [Cells.find]
      split
      · simp
      · exact ih (lo + 1) (by omega) h2
    · omega

/-- A slot freed while no slot is FREE is the one taken next (R121, R127). -/
theorem Pool.firstFreeSlot_freeSlot (p : Pool) (hw : p.wf = true) (n : Nat) (x : Slot) (hx : p.slot n = some x)
    (hf : p.firstFreeSlot = none) : (p.freeSlot n).firstFreeSlot = some n := by
  have hlt := Pool.slot_lt hw hx
  unfold Pool.firstFreeSlot at hf ⊢
  split at hf
  · cases hf
  · have e : Cells.firstFree 0 (p.freeSlot n).slots = n :=
      Cells.firstFree_erase n 0 p.slots ((Pool.wf_iff p).1 hw).1 (by omega)
        (fun m _ _ => Cells.find_below_firstFree 0 m _ (by omega) (by omega)) x hx
    rw [e, if_pos hlt]

end Sys2Proof.Machine
end

