-- ==== Sys2Proof/Laws/Hub.lean ====
section
/-! SUPPORT. What the transmit side and the offers leave alone, and that every operation on the pool keeps its canonical
form. -/

namespace Sys2Proof.Machine

/-! ## The transmit side leaves the pool as it is -/

@[simp] theorem Hub.pool_send (h : Hub) (p : Port) (f : Sending) : (h.send p f).pool = h.pool := rfl
@[simp] theorem Hub.pool_sendEnd (h : Hub) (p : Port) (t : TakeJob) : (h.sendEnd p t).pool = h.pool := rfl

@[simp] theorem Hub.pool_sendTake (h : Hub) (p : Port) (t : TakeJob) : (h.sendTake p t).pool = h.pool := by
  unfold Hub.sendTake
  split
  · rfl
  · split
    · split <;> rfl
    · rfl
    · split <;> rfl

@[simp] theorem Hub.pool_startNext (h : Hub) (p : Port) : (h.startNext p).pool = h.pool := by
  unfold Hub.startNext
  split
  · rfl
  · split
    · rfl
    · split
      · rfl
      · split
        · split <;> simp
        · rfl

@[simp] theorem Hub.pool_wake (h : Hub) (p : Port) : (h.wake p).pool = h.pool := by
  unfold Hub.wake
  split <;> simp

@[simp] theorem Hub.pool_wakes (l : List Port) (h : Hub) : (l.foldl Hub.wake h).pool = h.pool := by
  induction l generalizing h with
  | nil => rfl
  | cons p rest ih => simp [ih]

@[simp] theorem Hub.pool_refuse (h : Hub) (p : Port) (f : TxFrame) : (h.refuse p f).pool = h.pool := by
  unfold Hub.refuse
  split <;> simp

@[simp] theorem Hub.pool_answerFrame (h : Hub) (p : Port) (f : TxFrame) : (h.answerFrame p f).pool = h.pool := by
  simp [Hub.answerFrame]

@[simp] theorem Hub.pool_answer (h : Hub) (p : Port) (tag kind : Byte) (r : Reply) :
    (h.answer p tag kind r).pool = h.pool := by simp [Hub.answer]

@[simp] theorem Hub.pool_endHold (h : Hub) (p : Port) (x : PortState) : (h.endHold p x).pool = h.pool := by
  unfold Hub.endHold
  split <;> simp

/-! ## Offers leave the pool as it is -/

@[simp] theorem Hub.pool_offerTo (n : Nat) (seq : BitVec 32) (r : Rec) (acc : Hub × Nat) (p : Port) :
    (Hub.offerTo n seq r acc p).1.pool = acc.1.pool := by
  unfold Hub.offerTo
  split <;> simp

@[simp] theorem Hub.pool_offers (n : Nat) (seq : BitVec 32) (r : Rec) (l : List Port) (acc : Hub × Nat) :
    (l.foldl (Hub.offerTo n seq r) acc).1.pool = acc.1.pool := by
  induction l generalizing acc with
  | nil => rfl
  | cons p rest ih => simp [ih]

/-- What fan-out does to the pool: the sequence counter advances, the record takes its number, and its slot becomes
QUEUED or FREE. -/
theorem Hub.pool_fanOut (h : Hub) (n : Nat) (r : Rec) :
    ∃ refs, (h.fanOut n r).pool =
      Pool.finishFanOut
        { h.pool.setContent n (.record (nextSeq h.pool.seq) r) with seq := nextSeq h.pool.seq } n refs := by
  unfold Hub.fanOut
  simp only [Hub.pool_wakes, Hub.pool_withPool, Hub.pool_offers]
  exact ⟨_, rfl⟩

/-- A record placed in a slot leaves the pending list as it is. -/
theorem Hub.waiting_place (h : Hub) (n : Nat) (r : Rec) : (h.place n r).pool.waiting = h.pool.waiting := by
  unfold Hub.place
  obtain ⟨refs, e⟩ := Hub.pool_fanOut (h.withPool (h.pool.putSlot n (Slot.assembling (.unnumbered r)))) n r
  rw [e]
  have hset : ∀ (p : Pool) (n : Nat) (c : Content), (p.setContent n c).waiting = p.waiting := by
    intro p n c; unfold Pool.setContent; split <;> rfl
  have hfin : ∀ (p : Pool) (n refs : Nat), (p.finishFanOut n refs).waiting = p.waiting := by
    intro p n c; unfold Pool.finishFanOut; split
    · rfl
    · split <;> rfl
  rw [hfin]; simp only [hset]; rfl

/-! ## The canonical form of the pool -/

theorem Pool.wf_of_slots {p q : Pool} (h : p.wf = true) (e : q.slots = p.slots) : q.wf = true := by
  unfold Pool.wf at h ⊢
  rw [e]
  exact h

theorem Hub.wf_fanOut {h : Hub} (w : h.pool.wf = true) (n : Nat) (r : Rec) : (h.fanOut n r).pool.wf = true := by
  obtain ⟨refs, e⟩ := h.pool_fanOut n r
  rw [e]
  apply Pool.wf_finishFanOut
  exact Pool.wf_of_slots (Pool.wf_setContent w n (.record (nextSeq h.pool.seq) r)) rfl

theorem Hub.wf_place {h : Hub} (w : h.pool.wf = true) {n : Nat} (hn : n < Config.slotCount) (r : Rec) :
    (h.place n r).pool.wf = true := by
  unfold Hub.place
  apply Hub.wf_fanOut
  rw [Hub.pool_withPool]
  exact Pool.wf_putSlot w hn _

theorem Hub.wf_drainUpTo (fuel : Nat) {h : Hub} (w : h.pool.wf = true) : (Hub.drainUpTo fuel h).pool.wf = true := by
  induction fuel generalizing h with
  | zero => exact w
  | succ k ih =>
    unfold Hub.drainUpTo
    split
    · next r rest n _ hn =>
      apply ih
      apply Hub.wf_place _ (Pool.firstFreeSlot_free w hn).2
      rw [Hub.pool_withPool]
      exact Pool.wf_of_slots w rfl
    · exact w

theorem Hub.wf_drain {h : Hub} (w : h.pool.wf = true) : h.drain.pool.wf = true := Hub.wf_drainUpTo _ w

theorem Hub.wf_hand {h : Hub} (w : h.pool.wf = true) (r : Rec) : (h.hand r).pool.wf = true := by
  unfold Hub.hand
  split
  · next n _ hn => exact Hub.wf_place w (Pool.firstFreeSlot_free w hn).2 r
  · split
    · exact Pool.wf_of_slots w rfl
    · exact Pool.wf_of_slots w rfl

theorem Hub.wf_releaseRef {h : Hub} (w : h.pool.wf = true) (n : Nat) : (h.releaseRef n).pool.wf = true := by
  unfold Hub.releaseRef
  split
  · next x hx =>
    split
    · apply Hub.wf_drain
      rw [Hub.pool_withPool]
      exact Pool.wf_freeSlot w n
    · exact Pool.wf_putSlot w (Pool.slot_lt w hx) _
  · exact w

theorem Hub.wf_releaseEntry {h : Hub} (w : h.pool.wf = true) (e : Entry) : (h.releaseEntry e).pool.wf = true := by
  cases e with
  | ref n => exact Hub.wf_releaseRef w n
  | marker g => exact w

theorem Hub.wf_releaseEntries (l : List Entry) {h : Hub} (w : h.pool.wf = true) :
    (l.foldl Hub.releaseEntry h).pool.wf = true := by
  induction l generalizing h with
  | nil => exact w
  | cons e rest ih => exact ih (Hub.wf_releaseEntry w e)

theorem State.wf_endPool {s : State} (w : s.hub.pool.wf = true) : s.endPool.hub.pool.wf = true := by
  unfold State.endPool
  split
  · next n _ hn =>
    split
    · exact w
    · rw [State.hub_withHub]
      apply Hub.wf_place _ (Pool.firstFreeSlot_free w hn).2
      rw [Hub.pool_withPool]
      exact Pool.wf_of_slots w rfl
  · exact w

theorem State.wf_handRecord {s : State} (w : s.hub.pool.wf = true) (b : Body) :
    (s.handRecord b).hub.pool.wf = true := Hub.wf_hand w _

/-! ## Every transition of a queue that a hub operation makes keeps it within its depth (R136) -/

theorem PortDist.length_offer {d : PortDist} (hd : d.queue.length ≤ Config.queueDepth) (seq : BitVec 32) (n : Nat) :
    (d.offer seq n).1.queue.length ≤ Config.queueDepth := by
  unfold PortDist.offer
  split
  · split
    · simp only [List.length_append, List.length_cons, List.length_nil]; omega
    · exact hd
  · split
    · simp only [List.length_append, List.length_cons, List.length_nil]; omega
    · exact hd

theorem PortDist.queue_consume (d : PortDist) (n : Nat) (r : Rec) : (d.consume n r).queue = d.queue := by
  unfold PortDist.consume
  split <;> rfl

/-- Every port's queue is within its depth. -/
def Hub.queuesFit (h : Hub) : Prop := ∀ q, (h.dist q).queue.length ≤ Config.queueDepth

theorem Hub.queuesFit_setCtl {h : Hub} (w : h.queuesFit) (p : Port) (c : PortCtl) : (h.setCtl p c).queuesFit := by
  intro q
  rw [Hub.dist_setCtl]
  exact w q

theorem Hub.queuesFit_setDist {h : Hub} (w : h.queuesFit) (p : Port) {d : PortDist}
    (hd : d.queue.length ≤ Config.queueDepth) : (h.setDist p d).queuesFit := by
  intro q
  rw [Hub.dist_setDist]
  split
  · exact hd
  · exact w q

theorem Hub.queuesFit_putDist {h : Hub} (w : h.queuesFit) (p : Port) {d : PortDist}
    (hd : d.queue.length ≤ Config.queueDepth) : (h.putDist p d).queuesFit :=
  Hub.queuesFit_setDist w p hd

theorem Hub.queuesFit_withPool {h : Hub} (w : h.queuesFit) (x : Pool) : (h.withPool x).queuesFit := w

theorem Hub.queuesFit_sendTake {h : Hub} (w : h.queuesFit) (p : Port) (t : TakeJob) : (h.sendTake p t).queuesFit := by
  unfold Hub.sendTake
  split
  · exact Hub.queuesFit_setCtl w p _
  · split
    · split
      · exact Hub.queuesFit_setCtl w p _
      · exact Hub.queuesFit_setCtl w p _
    · exact Hub.queuesFit_setCtl w p _
    · split
      · exact Hub.queuesFit_setCtl (Hub.queuesFit_putDist w p (by simp [Config.queueDepth])) p _
      · exact Hub.queuesFit_setCtl w p _

theorem Hub.queuesFit_startNext {h : Hub} (w : h.queuesFit) (p : Port) : (h.startNext p).queuesFit := by
  unfold Hub.startNext
  split
  · exact w
  · split
    · exact Hub.queuesFit_setCtl w p _
    · split
      · exact Hub.queuesFit_setCtl w p _
      · split
        · split
          · exact Hub.queuesFit_sendTake w p _
          · exact w
        · exact w

theorem Hub.queuesFit_wake {h : Hub} (w : h.queuesFit) (p : Port) : (h.wake p).queuesFit := by
  unfold Hub.wake
  split
  · exact Hub.queuesFit_startNext (Hub.queuesFit_setCtl w p _) p
  · exact w

theorem Hub.queuesFit_wakes (l : List Port) {h : Hub} (w : h.queuesFit) : (l.foldl Hub.wake h).queuesFit := by
  induction l generalizing h with
  | nil => exact w
  | cons p rest ih => exact ih (Hub.queuesFit_wake w p)

theorem Hub.queuesFit_offerTo {acc : Hub × Nat} (w : acc.1.queuesFit) (n : Nat) (seq : BitVec 32) (r : Rec)
    (p : Port) : (Hub.offerTo n seq r acc p).1.queuesFit := by
  unfold Hub.offerTo
  split
  · exact Hub.queuesFit_putDist w p (by rw [PortDist.queue_consume]; exact PortDist.length_offer (w p) seq n)
  · exact w

theorem Hub.queuesFit_offers (n : Nat) (seq : BitVec 32) (r : Rec) (l : List Port) {acc : Hub × Nat}
    (w : acc.1.queuesFit) : (l.foldl (Hub.offerTo n seq r) acc).1.queuesFit := by
  induction l generalizing acc with
  | nil => exact w
  | cons p rest ih => exact ih (Hub.queuesFit_offerTo w n seq r p)

theorem Hub.queuesFit_fanOut {h : Hub} (w : h.queuesFit) (n : Nat) (r : Rec) : (h.fanOut n r).queuesFit := by
  unfold Hub.fanOut
  exact Hub.queuesFit_wakes _ (Hub.queuesFit_offers n _ r _ (acc := (_, 0)) w)

theorem Hub.queuesFit_place {h : Hub} (w : h.queuesFit) (n : Nat) (r : Rec) : (h.place n r).queuesFit := by
  unfold Hub.place
  apply Hub.queuesFit_fanOut
  exact Hub.queuesFit_withPool w _

theorem Hub.queuesFit_drainUpTo (fuel : Nat) {h : Hub} (w : h.queuesFit) : (Hub.drainUpTo fuel h).queuesFit := by
  induction fuel generalizing h with
  | zero => exact w
  | succ k ih =>
    unfold Hub.drainUpTo
    split
    · apply ih
      apply Hub.queuesFit_place
      exact Hub.queuesFit_withPool w _
    · exact w

theorem Hub.queuesFit_hand {h : Hub} (w : h.queuesFit) (r : Rec) : (h.hand r).queuesFit := by
  unfold Hub.hand
  split
  · exact Hub.queuesFit_place w _ _
  · split <;> exact w

theorem Hub.queuesFit_releaseRef {h : Hub} (w : h.queuesFit) (n : Nat) : (h.releaseRef n).queuesFit := by
  unfold Hub.releaseRef
  split
  · split
    · apply Hub.queuesFit_drainUpTo
      exact Hub.queuesFit_withPool w _
    · exact w
  · exact w

end Sys2Proof.Machine
end

