-- ==== Sys2Proof/Laws/Outside.lean ====
section
/-! SUPPORT. The sequencers, the arbiter and the road of records leave the rest of the part as it is: what lies outside
them after each of their operations. -/

namespace Sys2Proof.Machine

/-- `t` has the RESET level, Plan Store, odometer, Step Generator, Coupling Monitor, Run Control, free-value counter and
command queue of `s`. -/
structure SameOutside (s t : State) : Prop where
  resetLow : t.resetLow = s.resetLow
  plan : t.plan = s.plan
  odo : t.odo = s.odo
  gen : t.gen = s.gen
  coup : t.coup = s.coup
  run : t.run = s.run
  freeCount : t.freeCount = s.freeCount
  pending : t.pending = s.pending

theorem SameOutside.refl (s : State) : SameOutside s s := ⟨rfl, rfl, rfl, rfl, rfl, rfl, rfl, rfl⟩

theorem SameOutside.trans {s t u : State} (h : SameOutside s t) (k : SameOutside t u) : SameOutside s u :=
  ⟨k.resetLow.trans h.resetLow, k.plan.trans h.plan, k.odo.trans h.odo, k.gen.trans h.gen, k.coup.trans h.coup,
    k.run.trans h.run, k.freeCount.trans h.freeCount, k.pending.trans h.pending⟩

theorem SameOutside.bank {s t : State} (h : SameOutside s t) : t.bank = s.bank := by
  unfold State.bank
  rw [h.plan]

theorem SameOutside.withHub (s : State) (h : Hub) : SameOutside s (s.withHub h) := ⟨rfl, rfl, rfl, rfl, rfl, rfl, rfl, rfl⟩

theorem SameOutside.setSeq (s : State) (r : Rail) (x : Sequencer) : SameOutside s (s.setSeq r x) := by
  cases r <;> exact ⟨rfl, rfl, rfl, rfl, rfl, rfl, rfl, rfl⟩

theorem SameOutside.setChan (s : State) (c : Chan) (x : Channel) : SameOutside s (s.setChan c x) :=
  ⟨rfl, rfl, rfl, rfl, rfl, rfl, rfl, rfl⟩

theorem SameOutside.setArb (s : State) (a : Arbiter) : SameOutside s { s with arb := a } :=
  ⟨rfl, rfl, rfl, rfl, rfl, rfl, rfl, rfl⟩

theorem SameOutside.setChans (s : State) (a : Vector Channel 3) : SameOutside s { s with chans := a } :=
  ⟨rfl, rfl, rfl, rfl, rfl, rfl, rfl, rfl⟩

theorem sameOutside_handRecord (s : State) (b : Body) : SameOutside s (s.handRecord b) := SameOutside.withHub s _

theorem sameOutside_endPool (s : State) : SameOutside s s.endPool := by
  unfold State.endPool
  split
  · split
    · exact SameOutside.refl s
    · exact SameOutside.withHub s _
  · exact SameOutside.refl s

/-! ## Sequencers -/

theorem sameOutside_enterRequesting (s : State) (r : Rail) (st : Step) (g : List BlockIx × Link) :
    SameOutside s (s.enterRequesting r st g) := by
  unfold State.enterRequesting
  exact (SameOutside.setSeq s r _).trans (SameOutside.setArb _ _)

theorem sameOutside_chainEnd (s : State) (r : Rail) : SameOutside s (s.chainEnd r) := by
  unfold State.chainEnd
  split
  · exact SameOutside.setSeq s r _
  · dsimp only
    split
    · exact (SameOutside.setSeq s r _).trans (SameOutside.setSeq _ r _)
    · exact (SameOutside.setSeq s r _).trans (sameOutside_enterRequesting _ r _ _)

theorem sameOutside_walkOn (s : State) (r : Rail) : SameOutside s (s.walkOn r) := by
  unfold State.walkOn
  split
  · exact SameOutside.refl s
  · split
    · exact sameOutside_chainEnd s r
    · exact sameOutside_enterRequesting s r _ _

theorem sameOutside_beginCycle (s : State) (r : Rail) (st : Step) : SameOutside s (s.beginCycle r st) :=
  (SameOutside.setSeq s r _).trans (sameOutside_walkOn _ r)

theorem sameOutside_closeSkip (s : State) (r : Rail) : SameOutside s (s.closeSkip r) := by
  unfold State.closeSkip
  split
  · exact SameOutside.refl s
  · exact (SameOutside.setSeq s r _).trans (sameOutside_handRecord _ _)

theorem sameOutside_omission (s : State) (r : Rail) (k : StepNo) (c : Coverage) : SameOutside s (s.omission r k c) := by
  unfold State.omission
  split
  · exact SameOutside.setSeq s r _
  · exact (sameOutside_closeSkip s r).trans (SameOutside.setSeq _ r _)

theorem sameOutside_stepArrives (s : State) (r : Rail) (st : Step) : SameOutside s (s.stepArrives r st) := by
  unfold State.stepArrives
  split
  · exact SameOutside.refl s
  · exact sameOutside_beginCycle s r st
  · split
    · exact SameOutside.setSeq s r _
    · exact sameOutside_omission s r _ _
  · split
    · exact SameOutside.setSeq s r _
    · exact sameOutside_omission s r _ _

/-! ## Grants and passes -/

theorem sameOutside_fireShot (s : State) (r : Rail) (st : Step) (j : Bool) (d : ShotPlan) :
    SameOutside s (s.fireShot r st j d) := by
  unfold State.fireShot
  exact ((SameOutside.withHub s _).trans (SameOutside.setSeq _ r _)).trans (SameOutside.setChan _ _ _)

theorem sameOutside_fireShots (r : Rail) (st : Step) (j : Bool) (is : List BlockIx) (cs : List Chan) (ns : List Nat)
    (s : State) : SameOutside s (State.fireShots s r st j is cs ns) := by
  induction is generalizing s cs ns with
  | nil => exact SameOutside.refl s
  | cons i is ih =>
    cases cs with
    | nil => exact SameOutside.refl s
    | cons c cs =>
      cases ns with
      | nil => exact SameOutside.refl s
      | cons n ns =>
        unfold State.fireShots
        exact (sameOutside_fireShot s r st j _).trans (ih cs ns _)

theorem sameOutside_grant (s : State) (r : Rail) (st : Step) : SameOutside s (s.grant r st) := by
  unfold State.grant
  exact ((((SameOutside.withHub s _).trans (sameOutside_closeSkip _ r)).trans (sameOutside_fireShots r st _ _ _ _ _)).trans
    (SameOutside.setSeq _ r _)).trans (SameOutside.setArb _ _)

theorem sameOutside_omitGroup (s : State) (r : Rail) (st : Step) : SameOutside s (s.omitGroup r st) := by
  unfold State.omitGroup
  exact ((sameOutside_omission s r _ _).trans (SameOutside.setSeq _ r _)).trans (SameOutside.setArb _ _)

theorem sameOutside_consider (s : State) (r : Rail) : SameOutside s (s.consider r).1 := by
  unfold State.consider
  split
  · split
    · split
      · exact sameOutside_grant s r _
      · exact sameOutside_omitGroup s r _
    · exact SameOutside.refl s
  · exact SameOutside.refl s

theorem sameOutside_afterRefusals (fuel : Nat) (l : List Rail) (s : State) :
    SameOutside s (State.afterRefusals fuel l s) := by
  induction fuel generalizing l s with
  | zero => unfold State.afterRefusals; exact SameOutside.refl s
  | succ k ih =>
    cases l with
    | nil => unfold State.afterRefusals; exact SameOutside.refl s
    | cons r rest =>
      unfold State.afterRefusals
      exact ((sameOutside_walkOn s r).trans (sameOutside_consider _ r)).trans (ih _ _)

theorem sameOutside_pass (s : State) : SameOutside s s.pass := by
  unfold State.pass
  have h1 := sameOutside_consider s s.higherRail
  have h2 := h1.trans (sameOutside_consider (s.consider s.higherRail).1 s.higherRail.other)
  dsimp only
  split
  · exact h1
  · split
    · exact h2.trans (sameOutside_afterRefusals _ _ _)
    · exact h2
  · split
    · exact h2.trans (sameOutside_afterRefusals _ _ _)
    · exact h2
  · exact h2.trans (sameOutside_afterRefusals _ _ _)

/-! ## Channels -/

theorem sameOutside_releaseRail (s : State) (r : Rail) : SameOutside s (s.releaseRail r) := SameOutside.setChans s _

theorem sameOutside_movePointer (s : State) (r : Rail) : SameOutside s (s.movePointer r) := by
  unfold State.movePointer
  split
  · exact SameOutside.refl s
  · exact SameOutside.setArb s _

theorem sameOutside_clearGroup (s : State) (r : Rail) : SameOutside s (s.clearGroup r) := SameOutside.setSeq s r _

/-! ## What single operations change -/

theorem State.setSeq_setSeq (s : State) (r : Rail) (x y : Sequencer) : (s.setSeq r x).setSeq r y = s.setSeq r y := by
  cases r <;> rfl

/-- The walk of a chain reads the bank and the hold sets alone. -/
theorem State.nextGroup_setSeq (s : State) (r : Rail) (x : Sequencer) (st : Step) (l : Link) :
    (s.setSeq r x).nextGroup st l = s.nextGroup st l := by
  cases r <;> rfl

/-- A closed skip run leaves the rest of its rail as it is (R80). -/
theorem State.seq_closeSkip (s : State) (r : Rail) : (s.closeSkip r).seq r = { s.seq r with skip := none } := by
  unfold State.closeSkip
  split
  · next h =>
    generalize s.seq r = x at h ⊢
    cases x
    simp_all
  · simp [State.handRecord]

/-- An omission leaves the channels, the requests, the other rail and its own fired counts as they are (R78, R80). -/
theorem State.omission_frame (s : State) (r : Rail) (k : StepNo) (c : Coverage) :
    (s.omission r k c).chans = s.chans ∧ ((s.omission r k c).seq r).fired = (s.seq r).fired ∧
      (s.omission r k c).seq r.other = s.seq r.other ∧ (s.omission r k c).arb = s.arb := by
  unfold State.omission
  split
  · exact ⟨by simp, by simp, by simp, by simp⟩
  · unfold State.closeSkip
    split
    · exact ⟨by simp, by simp, by simp, by simp⟩
    · refine ⟨?_, ?_, ?_, ?_⟩ <;> simp [State.handRecord]

/-- The coupling states after a shot: that of its probe by the tables, the others as they were (R112 to R114). -/
theorem State.probes_couple (s : State) (p : ProbeNo) (hit : Option Bool) (n : StepNo) :
    (s.couple p hit n).coup.probes =
      (match hit with
        | none => s.coup.probes
        | some h =>
          s.coup.probes.set p
            (if h then (s.coup.probes[p]).hit (s.bank.probe p).fields.recoveryRun
              else (s.coup.probes[p]).miss (s.bank.probe p).fields.lossRun)) := by
  unfold State.couple
  cases hit with
  | none => rfl
  | some h => cases h <;> (simp only [Bool.false_eq_true, if_false, if_true]; split <;> rfl)

/-- The end of an event of the pool changes the hub alone (R129). -/
theorem State.endPool_eq (s : State) : s.endPool = s.withHub s.endPool.hub := by
  have h : ∃ h, s.endPool = s.withHub h := by
    unfold State.endPool
    split
    · split
      · exact ⟨s.hub, rfl⟩
      · exact ⟨_, rfl⟩
    · exact ⟨s.hub, rfl⟩
  obtain ⟨h, e⟩ := h
  rw [e]
  rfl

end Sys2Proof.Machine
end

