-- ==== Sys2Proof/Laws/Requests.lean ====
section
/-! SUPPORT. How a request runs on a port that takes it: the Port Controller it starts from, the answer, and the refusals
of the transmit side, each as one equation; and which field a RANGE refusal names. -/

namespace Sys2Proof.Machine

/-! ## The choice of the next frame -/

/-- With a refusal or an answer frame waiting, the choice of the next frame touches the Port Controller alone. -/
theorem Hub.startNext_eq (h : Hub) (p : Port) (ha : (h.ctl p).refusals ≠ [] ∨ (h.ctl p).answers ≠ []) :
    h.startNext p = h.setCtl p (h.ctl p).nextFrame := by
  unfold Hub.startNext PortCtl.nextFrame
  generalize hc : h.ctl p = c at ha ⊢
  have hself : h.setCtl p c = h := by rw [← hc, Hub.setCtl_self]
  obtain ⟨_, _, refusals, answers, _, sending, _, _⟩ := c
  cases sending with
  | some x => exact hself.symm
  | none =>
    cases refusals with
    | cons f rest => rfl
    | nil =>
      cases answers with
      | cons f rest => rfl
      | nil => simp at ha

@[simp] theorem PortCtl.state_nextFrame (c : PortCtl) : c.nextFrame.state = c.state := by
  unfold PortCtl.nextFrame; repeat' (first | rfl | split)

@[simp] theorem PortCtl.rx_nextFrame (c : PortCtl) : c.nextFrame.rx = c.rx := by
  unfold PortCtl.nextFrame; repeat' (first | rfl | split)

@[simp] theorem PortCtl.take_nextFrame (c : PortCtl) : c.nextFrame.take = c.take := by
  unfold PortCtl.nextFrame; repeat' (first | rfl | split)

@[simp] theorem PortCtl.holdTime_nextFrame (c : PortCtl) : c.nextFrame.holdTime = c.holdTime := by
  unfold PortCtl.nextFrame; repeat' (first | rfl | split)

@[simp] theorem PortCtl.heldTimer_nextFrame (c : PortCtl) : c.nextFrame.heldTimer = c.heldTimer := by
  unfold PortCtl.nextFrame; repeat' (first | rfl | split)

/-- Giving a port an answer frame touches its controller alone. -/
theorem Hub.answerFrame_eq (h : Hub) (p : Port) (f : TxFrame) :
    h.answerFrame p f =
      h.setCtl p (PortCtl.nextFrame { h.ctl p with state := .answering, answers := (h.ctl p).answers ++ [f] }) := by
  unfold Hub.answerFrame
  rw [Hub.startNext_eq _ _ (by simp), Hub.setCtl_setCtl, Hub.ctl_setCtl_self]

/-- The end of a hold touches the Port Controller alone. -/
theorem Hub.endHold_eq (h : Hub) (p : Port) (x : PortState) :
    h.endHold p x = h.setCtl p ((h.ctl p).endHeld x) := by
  unfold Hub.endHold
  generalize hc : h.ctl p = c
  unfold PortCtl.endHeld
  obtain ⟨_, _, _, _, take, _, _, _⟩ := c
  cases take with
  | none => rfl
  | some j => exact (Hub.startNext_eq _ _ (by simp)).trans (by rw [Hub.setCtl_setCtl, Hub.ctl_setCtl_self])

/-- A refusal formed with the receive buffer empty touches the Port Controller alone. -/
theorem Hub.refuse_eq (h : Hub) (p : Port) (f : TxFrame) (hrx : (h.ctl p).rx = []) :
    h.refuse p f = h.setCtl p ((h.ctl p).refused f) := by
  have e : { h.ctl p with rx := [] } = h.ctl p := by rw [← hrx]
  unfold Hub.refuse PortCtl.refused
  split
  · rw [Hub.startNext_eq _ _ (by simp), Hub.setCtl_setCtl, Hub.ctl_setCtl_self, ← hrx]
  · rw [e, Hub.setCtl_self]

/-! ## Taking a request -/

@[simp] theorem PortCtl.state_endHeld (c : PortCtl) (x : PortState) : (c.endHeld x).state = x := by
  unfold PortCtl.endHeld; split <;> simp

@[simp] theorem PortCtl.rx_endHeld (c : PortCtl) (x : PortState) : (c.endHeld x).rx = c.rx := by
  unfold PortCtl.endHeld; split <;> simp

@[simp] theorem PortCtl.holdTime_endHeld (c : PortCtl) (x : PortState) : (c.endHeld x).holdTime = c.holdTime := by
  unfold PortCtl.endHeld; split <;> simp

@[simp] theorem PortCtl.rx_taken (c : PortCtl) : c.taken.rx = [] := by
  unfold PortCtl.taken; split <;> simp

@[simp] theorem PortCtl.holdTime_taken (c : PortCtl) : c.taken.holdTime = c.holdTime := by
  unfold PortCtl.taken; split <;> simp

/-- A port that takes requests is READY while it carries one out. -/
theorem PortCtl.state_taken {c : PortCtl} (h : c.state = .ready ∨ c.state = .heldTake) : c.taken.state = .ready := by
  unfold PortCtl.taken
  split
  · simp
  · rcases h with h | h
    · exact h
    · contradiction

/-- A READY controller with an empty receive buffer takes a request as it stands. -/
theorem PortCtl.taken_of_ready {c : PortCtl} (h : c.state = .ready) (hrx : c.rx = []) : c.taken = c := by
  have e : { c with rx := [] } = c := by rw [← hrx]
  unfold PortCtl.taken
  rw [if_neg (by rw [h]; decide), e]

/-- The part in which a request is carried out: its port's controller has taken it. -/
theorem State.receive_takes {s : State} {p : Port} (h : s.takesOn p) (tag kind : Byte) (act : State → State) :
    s.receive p tag kind act = act (s.withHub (s.hub.setCtl p (s.hub.ctl p).taken)) := by
  unfold State.receive
  rcases h.2 with hr | hr
  · have e : (s.hub.ctl p).taken = { s.hub.ctl p with rx := [] } := if_neg (by rw [hr]; decide)
    rw [e]
    split <;> simp_all [State.clearRx]
  · have e : (s.hub.ctl p).taken = PortCtl.endHeld { s.hub.ctl p with rx := [] } .ready := if_pos hr
    rw [e]
    split <;> simp_all [State.clearRx, Hub.endHold_eq, Hub.setCtl_setCtl]

/-- A port that is ANSWERING refuses a request BUSY. -/
theorem State.receive_busy {s : State} {p : Port} (h : (s.hub.ctl p).state = .answering) (tag kind : Byte)
    (act : State → State) : s.refusedBy p (.response tag kind (.refused .busy)) (s.receive p tag kind act) := by
  unfold State.receive State.refusedBy
  rw [h]
  simp only [State.clearRx, State.hub_withHub, State.withHub_withHub]
  rw [Hub.refuse_eq _ _ _ (by simp), Hub.setCtl_setCtl, Hub.ctl_setCtl_self]
  rfl

/-- A request whose rule, with the controller of the port as it takes the request, gives the state `u` with that
controller as it takes a request, and the reply `r`, is answered by `r` in `u`. -/
theorem State.request_answers {s : State} {p : Port} (h : s.takesOn p) (tag kind : Byte)
    (serve : State → State × Reply) (u : State) (r : Reply)
    (hs : serve (s.withHub (s.hub.setCtl p (s.hub.ctl p).taken)) =
      (u.withHub (u.hub.setCtl p (u.hub.ctl p).taken), r)) :
    ∃ t, whileReleased (fun x => x.request p tag kind serve) s = .next t ∧
      u.answeredBy p (.response tag kind r) t := by
  refine ⟨_, rfl, ?_⟩
  rw [h.1]
  simp only [Bool.false_eq_true, if_false, State.request, State.receive_takes h, State.respond, hs, Hub.answer,
    Hub.answerFrame_eq, State.hub_withHub, State.withHub_withHub, Hub.setCtl_setCtl, Hub.ctl_setCtl_self]
  rfl

/-! ## The first field out of range -/

/-- The position that the checks give is that of the first one not passed (R175). -/
theorem firstBad_eq_some_iff (checks : List Bool) (n : Nat) : firstBad checks = some n ↔ firstOutside n checks := by
  have main : ∀ (l : List Bool) (i : Nat), firstBadFrom i l = some n ↔
      i ≤ n ∧ l[n - i]? = some false ∧ ∀ m < n - i, l[m]? = some true := by
    intro l
    induction l with
    | nil => intro i; simp [firstBadFrom]
    | cons ok rest ih =>
      intro i
      cases ok with
      | false =>
        simp only [firstBadFrom, Bool.false_eq_true, if_false, Option.some.injEq]
        constructor
        · rintro rfl
          simp
        · rintro ⟨h, _, hall⟩
          by_contra hne
          have := hall 0 (by omega)
          simp at this
      | true =>
        rw [show firstBadFrom i (true :: rest) = firstBadFrom (i + 1) rest from rfl, ih (i + 1)]
        constructor
        · rintro ⟨h, hf, hall⟩
          refine ⟨by omega, ?_, fun m hm => ?_⟩
          · rw [show n - i = n - (i + 1) + 1 by omega]
            simpa using hf
          · cases m with
            | zero => rfl
            | succ k => simpa using hall k (by omega)
        · rintro ⟨h, hf, hall⟩
          have hlt : i < n := by
            by_contra hc
            rw [show n - i = 0 by omega] at hf
            simp at hf
          refine ⟨hlt, ?_, fun m hm => ?_⟩
          · rw [show n - i = n - (i + 1) + 1 by omega] at hf
            simpa using hf
          · simpa using hall (m + 1) (by omega)
  exact main checks 1

end Sys2Proof.Machine
end

