-- ==== Sys2Proof/Tests/Slice0.lean ====
section
/-! SUPPORT. Tests of the model on small states: ill-formed commands refused, figures of the spec's worked examples, and
a witness for the hypotheses of every statement. -/

namespace Sys2Proof.Tests

set_option Elab.async false

open Sys2Proof Sys2Proof.Machine

/-! ## Helpers -/

/-- The part after reset with RESET released, every port ABSENT. -/
def released : State := { State.reset with resetLow := false }

/-- The same with every port READY. -/
def live : State :=
  { released with
    hub := { pool := Pool.reset
             ports := Vector.replicate 4 { PortUnit.reset with ctl := { PortCtl.reset with state := .ready } } } }

/-- A state with the Port Controller of a port changed. -/
def withCtl (s : State) (p : Port) (f : PortCtl → PortCtl) : State := s.withHub (s.hub.setCtl p (f (s.hub.ctl p)))

/-- A state with the Distribution Unit's state of a port changed. -/
def withDist (s : State) (p : Port) (f : PortDist → PortDist) : State := s.withHub (s.hub.setDist p (f (s.hub.dist p)))

/-- A state with another pool. -/
def withPool (s : State) (p : Pool) : State := s.withHub (s.hub.withPool p)

/-- P2 holds the edit right. -/
def editing : State := { live with plan := { live.plan with holder := some 2, idleTimer := some 20 } }

/-- The state a command leads to. -/
def after (c : Instr) (s : State) : State :=
  match exec c s with
  | .next t => t
  | .fault _ => s
  | .refused _ => s

/-- What a port is sending. -/
def sent (p : Port) (s : State) : Option Sending := (s.hub.ctl p).sending

/-- A RESPONSE being sent. -/
def reply (tag kind : Byte) (r : Reply) : Option Sending := some (.answer (.response tag kind r))

/-- A notice of the part in IDLE. -/
def notice : Rec := { run := 0, epoch := 0, position := 0, doubtful := true, body := .odometer 0 }

/-- A QUEUED slot with the notice, referenced once. -/
def queuedSlot : Slot := { phase := .queued, refs := 1, content := .record 1 notice, page := none }

/-- A pool with the slots below a number QUEUED. -/
def filled (n : Nat) : Pool :=
  { slots := (List.range n).map (fun i => (i, queuedSlot)), waiting := [], seq := 70000, lost := 0 }

/-- A gate of the worked example. -/
def gate (kind : GateKind) (origin : GateOrigin) (start width threshold : Nat) : Option Gate :=
  some { kind := kind, origin := origin, start := start, width := width, threshold := threshold }

/-- The empty plan's probe entry with a window, a settle time and two gate places. -/
def entryOf (window settle : Nat) (g0 g1 : Option Gate) : ProbeEntry :=
  { fields := { emptyProbe.fields with window := window, settle := settle }, gates := #v[g0, g1, none, none] }

/-- A block in use. -/
def blockAt (probe : ProbeNo) (d phase : Nat) (join : Bool) (next : Link) : Block :=
  { emptyBlock with inUse := true, probe := probe, decimation := d, phase := phase, join := join, next := next }

/-- The bank of the worked example of chapter 1, with the width of probe 0's LOSS gate and the probe of block 21
open. -/
def exampleBank (width : Nat) (probe21 : ProbeNo) : Bank :=
  { settings := { emptySettings with headA := some 0, headB := some 19 }
    probes :=
      ((((((emptyPlan.probes.set 0
        (entryOf 800 50 (gate .coupling .pulse 20 80 200) (gate .loss .interface 600 width 150))).set 1
        (entryOf 4000 200 (gate .peak .pulse 300 3500 300) none)).set 2
        (entryOf 4000 200 (gate .peak .pulse 300 3500 300) none)).set 3
        (entryOf 1500 100 (gate .peak .pulse 100 1200 250) none)).set 4
        (entryOf 1500 100 (gate .peak .pulse 100 1200 250) none)).set 12
        (entryOf 800 50 (gate .coupling .pulse 20 80 200) none)).set 13
        (entryOf 4000 200 (gate .peak .pulse 300 3500 300) none)
    blocks :=
      ((((((emptyPlan.blocks.set 0 (blockAt 0 1 0 false (some 1))).set 1 (blockAt 1 2 0 false (some 2))).set 2
        (blockAt 2 2 0 true (some 3))).set 3 (blockAt 3 1 0 false (some 4))).set 4 (blockAt 4 1 0 true none)).set 19
        (blockAt 12 1 0 false (some 20))).set 20 (blockAt probe21 2 1 false none) }

/-- The worked example's bank is active and its run 42 is RUNNING, both rails WAITING. -/
def running : State :=
  { live with
    plan := { live.plan with bank0 := exampleBank 100 13 }
    run := { live.run with state := .running, number := 42, label := 304, limit := 6 }
    gen := StepGen.started emptySettings
    seqA := Sequencer.started
    seqB := Sequencer.started }

/-- A channel bound to a shot of block 1 of rail A, in a phase. -/
def bound (phase : ChanPhase) (block : BlockIx) (probe : ProbeNo) (slot : Nat) : Channel :=
  { Channel.reset with
    phase := phase
    binding := some { rail := .a, block := block, probe := probe, slot := slot, window := some 10, settle := some 1 } }

/-- The grant fields of a shot of block 1 at step 1. -/
def shotGrant : ShotGrant :=
  { stepNo := 1, stepPos := 12, firePos := 12, rail := .a, probe := 0, block := 0, joined := false, snapshot := false,
    dropped := false }

/-- Rail A is LISTENING in step 1, its group in the air on channel 0. -/
def listening (phase : ChanPhase) : State :=
  { running with
    seqA := { running.seqA with state := .listening, current := some { no := 1, pos := 12 }, group := [0], windows := 1 }
    chans := running.chans.set 0 (bound phase 0 0 0)
    hub := (running.hub.withPool
      { Pool.reset with slots := [(0, Slot.assembling (.shot shotGrant .onEvent))] }) }

/-- Rail A is REQUESTING with a group in step 1. -/
def requesting (group : List BlockIx) : State :=
  { running with
    seqA := { running.seqA with state := .requesting, current := some { no := 1, pos := 12 }, group := group }
    arb := { running.arb with reqA := some group.length } }

/-- A port that is READY takes a request. -/
theorem takes_of_ready {s : State} {p : Port} (h : s.resetLow = false ∧ (s.hub.ctl p).state = .ready) :
    s.takesOn p := ⟨h.1, .inl h.2⟩

/-- Every port of the live part takes a request. -/
theorem live_takes : ∀ p, live.takesOn p := fun p => takes_of_ready (by revert p; decide +kernel)

/-- Every port takes a request while P2 edits. -/
theorem editing_takes : ∀ p, editing.takesOn p := fun p => takes_of_ready (by revert p; decide +kernel)

/-- Every port takes a request while the run is active. -/
theorem running_takes : ∀ p, running.takesOn p := fun p => takes_of_ready (by revert p; decide +kernel)

/-- Whether a bank passes the commit check. -/
def passes (b : Bank) : Bool :=
  match checkBank b with
  | .ok _ => true
  | .error _ => false

/-- A bank that passes has figures. -/
theorem figures_of_passes {b : Bank} (h : passes b = true) : ∃ f, checkBank b = .ok f := by
  unfold passes at h; split at h
  · exact ⟨_, by assumption⟩
  · exact absurd h (by decide)

/-! ## Ill-formed commands -/

theorem test_wf_longWindow (n : Nat) (h : n = Config.maxWindowSamples) :
    (Instr.channelWindowEnd 0 0 (List.replicate n 0)).wellFormed = false :=
  decide_eq_false (by rw [List.length_replicate, h]; exact Nat.lt_irrefl _)

theorem test_wf_longFrame : (Instr.frameError 0 (List.replicate 65 0)).wellFormed = false := by decide +kernel

theorem test_wf_listedKind : (Instr.unknownRequest 0 1 0x15).wellFormed = false := by decide

theorem test_wf_good : (Instr.unknownRequest 0 1 0x0F).wellFormed = true ∧
    (Instr.frameError 0 (List.replicate 64 0)).wellFormed = true := by decide

/-! ## Checks and codes of chapter 11 -/

/-- The catalogue check values of the two polynomials on the nine digits. -/
theorem test_crc : crc16 [0x31, 0x32, 0x33, 0x34, 0x35, 0x36, 0x37, 0x38, 0x39] = 0x29B1 ∧
    crc32 [0x31, 0x32, 0x33, 0x34, 0x35, 0x36, 0x37, 0x38, 0x39] = 0xCBF43926 := by decide +kernel

/-- The forms of 11.5 have 10, 46 and 9 bytes, 1690 in a bank. -/
theorem test_bankForms :
    settingsBytes emptySettings = [0, 12, 0, 0xE8, 3, 0, 0, 0, 0, 0] ∧
    probeBytes emptyProbe = [1, 100, 0, 0, 200, 0, 0, 0, 3, 3] ++ List.replicate 36 0 ∧
    blockCanonical { emptyBlock with inUse := true, next := some 63 } = [1, 0, 1, 0, 0, 0, 0, 0, 64] ∧
    blockCanonical { emptyBlock with next := some 63 } = [0, 0, 1, 0, 0, 0, 0, 0, 0] ∧
    10 + 24 * (probeBytes emptyProbe).length + 64 * (blockCanonical emptyBlock).length = 1690 := by decide +kernel

theorem test_identifyFrame : (requestOf (.identify 1 7)).map Request.chars = some [0xA5, 4, 1, 7, 0x53, 0x8A] := by
  decide +kernel

theorem test_endFrame :
    (TxFrame.endTake 22 0 0 false).bytes = [0xA5, 8, 0, 0x84, 22, 0, 0, 0, 0, 0x34, 0xBA] := by decide +kernel

theorem test_gapFrame : (TxFrame.gap 25 { count := 3, first := 5008, last := 5010 }).bytes =
    [0xA5, 16, 0, 0x83, 25, 3, 0, 0, 0, 144, 19, 0, 0, 146, 19, 0, 0, 0xD0, 0xC7] := by decide +kernel

theorem test_busyFrame : (TxFrame.response 24 6 (.refused .busy)).bytes =
    [0xA5, 7, 0, 0x81, 24, 6, 2, 3, 0x1A, 0xCE] := by decide +kernel

/-- The largest SHOT payload is 1086 bytes. -/
theorem test_largestShot :
    ((Body.shot { grant := shotGrant, coupling := .coupled, alarmed := false, saturated := false,
                  gates := List.replicate 4 { place := 0, kind := .peak, status := .hit, peak := 1, time := 2 } }).bytes
        (some (List.replicate 512 0))).length + 14 = 1086 := by decide +kernel

/-! ## The commit check (worked example of chapter 1) -/

theorem test_commitCheck :
    (match checkBank (exampleBank 100 13) with
      | .ok f => decide (f.cycleA = 6650 ∧ f.cycleB = 5050)
      | .error _ => false) = true := by decide +kernel

theorem test_commitCheck_faulty :
    (match checkBank (exampleBank 101 1), checkBank (exampleBank 100 1) with
      | .error f, .error g =>
        decide (f = { kind := .gateBeyondWindow, rail := none, block := none, probe := some 0, place := some 1 } ∧
          g = { kind := .wrongRail, rail := some .b, block := some 20, probe := some 1, place := none })
      | _, _ => false) = true := by decide +kernel

/-! ## The odometer (worked examples of chapter 3) -/

/-- The scaler 5/4 of the worked example, with r and a position. -/
def scaled (r : Nat) (pos : BitVec 32) (a b : Bool) : State :=
  { live with
    odo := { live.odo with num := 5, den := 4, rem := r, position := pos, lineA := a, lineB := b
                           m0 := { live.odo.m0 with enabled := true, lockout := 3, action := .load, load := 1000 } } }

/-- The remainder, the position and the doubtful flag. -/
def track (s : State) : Nat × BitVec 32 × Bool := (s.odo.rem, s.odo.position, s.odo.doubtful)

theorem test_encoderTransition :
    track (after (.encoderTransition false false) (scaled 3 203 false true)) = (0, 205, false) ∧
    track (after (.encoderTransition false true) (scaled 2 1001 false false)) = (1, 1000, false) := by decide +kernel

theorem test_encoderFault : track (after (.encoderTransition true true) (scaled 0 205 false false)) = (0, 205, true) := by
  decide +kernel

theorem test_markerEdge :
    track (after (.markerEdge .m0 true) (scaled 1 206 false true)) = (1, 1000, false) ∧
    track (after (.markerEdge .m0 true)
      { scaled 2 1001 false false with odo := { (scaled 2 1001 false false).odo with
          m0 := { (scaled 2 1001 false false).odo.m0 with counter := 1 } } }) = (2, 1001, false) := by decide +kernel

theorem test_speedWindowEnd :
    let s := after .speedWindowEnd { live with odo := { live.odo with tally := -7 } }
    (s.odo.speed, s.odo.direction, s.odo.tally) = (7, .decreasing, 0) := by decide +kernel

/-- The run with rollback: six ticks a count, pitch 10. -/
def rollback (pos : BitVec 32) (d f : BitVec 48) (next stepNo : Nat) (a b : Bool) : State :=
  { live with
    odo := { live.odo with num := 6, den := 1, position := pos, lineA := a, lineB := b }
    plan := { live.plan with bank0 := { emptyPlan with settings := { emptySettings with pitch := 10 } } }
    run := { live.run with state := .running, number := 1 }
    gen := { state := .issuing, source := .forward, disp := d, frontier := f, lastBoundary := next - 10,
             nextBoundary := next, stepNo := BitVec.ofNat 32 stepNo, timer := none }
    seqA := { Sequencer.started with state := .listening }
    seqB := Sequencer.started }

/-- What a row of the example shows, and the pending step of rail A. -/
def row (s : State) : BitVec 32 × BitVec 48 × BitVec 48 × Nat × Option Step :=
  (s.odo.position, s.gen.disp, s.gen.frontier, s.gen.nextBoundary, s.seqA.waiting)

theorem test_stepAtBoundary :
    row (after (.encoderTransition true false) (rollback 5006 6 6 10 0 false false)) =
      (5012, 12, 12, 20, some { no := 1, pos := 5010 }) ∧
    row (after (.encoderTransition true false) (rollback 9012 24 24 30 2 false false)) =
      (9018, 30, 30, 40, some { no := 3, pos := 9018 }) := by decide +kernel

theorem test_rollback :
    row (after (.encoderTransition false true) (rollback 5024 24 24 30 2 false false)) = (5018, 18, 24, 30, none) := by
  decide +kernel

theorem test_stepTimerExpiry :
    let s := after .stepTimerExpiry
      { rollback 7 0 0 10 4 false false with
        gen := { (rollback 7 0 0 10 4 false false).gen with source := .timed, timer := some 1000 } }
    (s.gen.stepNo, s.seqA.waiting, s.gen.timer) = (5, some { no := 5, pos := 7 }, some 1000) := by decide +kernel

/-! ## Rails and channels (worked examples of chapters 4 to 6) -/

/-- The first step of the run fires block 1 on CH0 and block 20 on CH1. -/
theorem test_firstStep :
    let s := State.issue running
    (s.seqA.state, s.seqA.group, s.seqB.group, s.chans[0].fe.map (fun x => x.probe),
        s.chans[1].fe.map (fun x => x.probe), s.hub.pool.slots.map (fun x => x.1)) =
      (.listening, [0], [19], some 0, some 12, [0, 1]) := by decide +kernel

/-- At the settle end in step 1 the group {2, 3} is not due, and {4, 5} is granted two channels. -/
theorem test_settleEnd :
    let s := after (.channelSettleEnd 0)
      { listening .settling with seqA := { (listening .settling).seqA with walk := some 1 } }
    (s.seqA.state, s.seqA.group, s.seqA.windows, s.chans[0].fe.map (fun x => x.probe),
      s.chans[1].fe.map (fun x => x.probe), s.seqA.fired[3]) = (.listening, [3, 4], 2, some 3, some 4, 1) := by
  decide +kernel

/-- A pool of 16 FREE slots refuses every group of step 30, and the rail passes to WAITING at once. -/
theorem test_poolOmissions :
    let s := State.issue { withPool running (filled 1008) with gen := { running.gen with stepNo := 29 } }
    (s.seqA.state, s.seqA.skip) =
      (.waiting, some { first := 30, last := 30, cover := .probeSet 0b11111 }) := by decide +kernel

/-- A short window with a gate of 5 samples, its crossing, and an INTERFACE gate placed from it. -/
theorem test_gates :
    let e := entryOf 2 0 (gate .coupling .pulse 0 1 200) (gate .loss .interface 0 1 150)
    let x := (Evaluator.start e (some 4) 10).run 0 [3, 190, 210, 640, 640, 100, 90, 700, 1, 2]
    (x.crossing, x.results.map (fun g => (g.status, g.peak, g.time)), x.excerpt.map (fun a => a.samples)) =
      (some 2, [(.hit, 640, 3), (.clear, 640, 3)], some [190, 640, 100, 700]) := by decide +kernel

/-- A miss of a coupled probe whose runs are near their limits, at a window end with settle time 5.0 µs: the shot is
reported under ON_EVENT for the change of state, a COUPLING notice goes before it, and the spray line is asserted. -/
theorem test_windowEnd :
    let s := listening .listening
    let e := entryOf 800 50 (gate .coupling .pulse 0 1 200) none
    let u := after (.channelWindowEnd 0 5 [])
      { withDist s 0 (fun d => { d with general := true, subs := d.subs.set 0 ⟨true, 0, 0⟩ }) with
        chans := s.chans.set 0 { s.chans[0] with eval := Evaluator.start e none 10 }
        coup := { s.coup with probes := s.coup.probes.set 0 ⟨.doubt, 2, 0⟩ } }
    (u.chans[0].phase, u.seqA.windows, u.coup.probes[0], u.coup.sprayA, (u.hub.dist 0).queue) =
      (.settling, 0, ⟨.uncoupled, 0, 0⟩, true, [.ref 1, .ref 0]) := by decide +kernel

/-! ## The pool and the ports (worked examples of chapters 7, 8 and 10) -/

/-- The tenth fault of the burst is lost; the sixth entry sent frees a slot for NOTICES_LOST. -/
theorem test_noticeLoss :
    let p := { filled 1024 with waiting := List.replicate 8 notice }
    (after (.encoderTransition true true) (withPool live p)).hub.pool.lost = 1 := by decide +kernel

theorem test_noticesLost :
    let s := withPool live { filled 1024 with lost := 1 }
    let t := withDist (withCtl s 0 (fun c => { c with state := .answering, sending := some (.entry (.gap 1 ⟨1, 1, 1⟩)),
                                                       take := some ⟨1, 3, 5⟩ })) 0
      (fun d => { d with general := true, queue := [.ref 5] })
    let u := after (.frameSent 0) t
    (u.hub.pool.lost, u.hub.pool.seq, (u.hub.dist 0).queue, (u.hub.ctl 0).take) =
      (0, 70001, [.ref 5], some ⟨1, 2, 6⟩) := by decide +kernel

/-- The queue of the example at 254 entries with a gap of 3: the marker, then the reference. -/
theorem test_gapMarker :
    let d := { PortDist.reset with queue := List.replicate 254 (.ref 0), gap := some ⟨3, 5008, 5010⟩ }
    ((d.offer 5012 7).1.queue.drop 254, (d.offer 5012 7).1.gap) = ([.marker ⟨3, 5008, 5010⟩, .ref 7], none) := by
  decide +kernel

/-- A held TAKE with tag 22 is ended by READ STATUS with tag 23: END with 0 entries is sent, the answer waits; a TAKE
sent meanwhile is refused BUSY. -/
theorem test_heldTake :
    let s := after (.take 1 22 4) (withCtl live 1 (fun c => { c with holdTime := 50 }))
    let t := after (.readStatus 1 23) s
    let u := after (.take 1 24 4) t
    ((s.hub.ctl 1).state, (s.hub.ctl 1).heldTimer, sent 1 t, (t.hub.ctl 1).answers.length, (u.hub.ctl 1).refusals) =
      (.heldTake, some 50, some (.answer (.endTake 22 0 0 false)), 1, [.response 24 6 (.refused .busy)]) := by
  decide +kernel

theorem test_heldTakeExpiry :
    let s := after (.take 1 25 4) (withCtl live 1 (fun c => { c with holdTime := 50 }))
    let t := after (.heldTakeExpiry 1) s
    ((t.hub.ctl 1).state, sent 1 t) = (.answering, some (.answer (.endTake 25 0 0 false))) := by decide +kernel

theorem test_presentAsserted : ((after (.presentAsserted 3) released).hub.ctl 3).state = .ready := by decide +kernel

theorem test_resetRelease :
    let s := after (.resetRelease true false false true 0b0101) State.reset
    (s.resetLow, s.odo.lineA, s.odo.m1.level, (s.hub.ctl 0).state, (s.hub.ctl 1).state, (s.hub.ctl 2).state) =
      (false, true, true, .ready, .absent, .ready) := by decide +kernel

theorem test_frameError : sent 1 (after (.frameError 1 [0xA5, 4, 1, 7, 0x53, 0x8B]) live) =
    some (.refusal (.response 0 0 (.refused .frameError))) := by decide +kernel

theorem test_frameError_goodFrame : sent 1 (after (.frameError 1 [0xA5, 4, 1, 7, 0x53, 0x8A]) live) =
    reply 7 1 (.done (.identity 1)) := by decide +kernel

theorem test_gapTimeout : sent 1 (after (.interCharacterGapTimeout 1) (withCtl live 1 (fun c => { c with rx := [0xA5] }))) =
    some (.refusal (.response 0 0 (.refused .frameError))) := by decide +kernel

theorem test_unknownRequest : sent 0 (after (.unknownRequest 0 3 0x0F) live) =
    reply 3 0x0F (.refused .unknownRequest) := by decide +kernel

theorem test_busyRefusal : sent 0 (after (.busyRefusal 0 3 0x77) (withCtl live 0 (fun c => { c with state := .answering }))) =
    some (.refusal (.response 3 0x77 (.refused .busy))) := by decide +kernel

/-- The present line of the editing port falls while it holds a probe that P3 does not hold. -/
theorem test_portReset :
    let s := after (.portReset 2) { editing with run := { editing.run with holds := editing.run.holds.set 3 0b0100 } }
    ((s.hub.ctl 2).state, s.plan.holder, s.plan.commit, s.run.holds[3], s.hub.pool.seq) =
      (.absent, none, .copying, 0, 1) := by decide +kernel

/-! ## Requests -/

theorem test_configurePort :
    let s := after (.configurePort 1 8 2000 256) live
    ((s.hub.ctl 1).holdTime, (s.hub.dist 1).threshold, sent 1 s) = (2000, 256, reply 8 3 (.done .nothing)) := by
  decide +kernel

theorem test_configurePort_range :
    sent 1 (after (.configurePort 1 8 2001 0) live) = reply 8 3 (.refused (.range 1)) := by decide +kernel

theorem test_subscribe :
    ((after (.subscribe 2 8 0 16 48 1) live).hub.dist 2).subs[0] = ⟨true, 16, 48⟩ := by decide +kernel

theorem test_general : ((after (.general 2 8 1) live).hub.dist 2).general = true ∧
    sent 2 (after (.general 2 8 2) live) = reply 8 5 (.refused (.range 1)) := by decide +kernel

theorem test_snapshot : ((after (.snapshot 3 8 2) live).hub.dist 3).snap = .waiting 2 ∧
    ((after (.cancelSnapshot 3 8) (withDist live 3 (fun d => { d with snap := .claimed 2 9 }))).hub.dist 3).snap =
      .none := by decide +kernel

theorem test_readPlanEntry :
    sent 0 (after (.readPlanEntry 0 8 0 2 65) live) = reply 8 9 (.refused (.range 3)) ∧
    sent 0 (after (.readPlanEntry 0 8 1 2 64) live) =
      reply 8 9 (.done (.planEntry .shadow (.block 63 emptyBlock) 0 0 .none)) := by decide +kernel

theorem test_claimEdit : (after (.claimEdit 2 8) live).plan.holder = some 2 ∧
    sent 1 (after (.claimEdit 1 8) editing) = reply 8 0x0A (.refused (.heldBy 2)) := by decide +kernel

theorem test_releaseEdit :
    let s := after (.releaseEdit 2 8) editing
    (s.plan.holder, s.plan.commit, s.plan.idleTimer) = (none, .copying, none) := by decide +kernel

theorem test_writeStepSettings : (after (.writeStepSettings 2 8 2 16 1000 1 1 20) editing).plan.bank1.settings =
    { source := .timed, pitch := 16, period := 1000, priority := .rotating, headA := some 0, headB := some 19 } := by
  decide +kernel

theorem test_writeProbe : ((after (.writeProbe 2 8 5 8 500 160 4000 500 15 1) editing).plan.bank1.probe 5).fields =
    { level := 8, pulseWidth := 500, gain := 160, window := 4000, settle := 500, lossRun := 15, recoveryRun := 1 } := by
  decide +kernel

theorem test_writeGate : ((after (.writeGate 2 8 5 3 1 2 1 3999 4000 1023) editing).plan.bank1.probe 5).gates[3] =
    gate .loss .interface 3999 4000 1023 := by decide +kernel

theorem test_writeBlock : (after (.writeBlock 2 8 64 1 23 16 15 1 1 255 3 64) editing).plan.bank1.block 63 =
    { inUse := true, probe := 23, decimation := 16, phase := 15, join := true, report := .onEvent, interval := 255,
      excerptLen := .l512, next := some 63 } := by decide +kernel

theorem test_commit :
    let s := after (.commit 2 8) { editing with plan := { editing.plan with bank1 := exampleBank 100 13 } }
    (s.plan.activeIx, s.plan.epoch, s.plan.commit, decide (s.plan.activeBank = exampleBank 100 13)) =
      (1, 1, .copying, true) := by decide +kernel

theorem test_abandon : (after (.abandon 2 8) editing).plan.commit = .copying ∧
    (after .shadowCopyCompletion (after (.abandon 2 8) editing)).plan.commit = .none := by decide +kernel

theorem test_editIdleTimerExpiry : (after .editIdleTimerExpiry editing).plan.holder = none := by decide +kernel

theorem test_setScaler :
    sent 2 (after (.setScaler 2 8 4097 4097) editing) = reply 8 0x17 (.refused (.range 2)) ∧
    sent 2 (after (.setScaler 2 8 9 1) editing) = reply 8 0x17 (.refused (.range 1)) ∧
    (after (.setScaler 2 8 8 1) editing).odo.num = 8 := by decide +kernel

theorem test_setPosition : (after (.setPosition 2 8 0xFFFFFFFF) editing).odo.position = 0xFFFFFFFF := by decide +kernel

theorem test_setMarker : (after (.setMarker 2 8 1 1 1 3 1 9000) editing).odo.m1 =
    { enabled := true, edge := .falling, lockout := 3, action := .load, load := 9000, counter := 65535,
      level := false } := by decide +kernel

theorem test_startRun :
    let s := after (.startRun 0 8 6 304) { live with run := { live.run with number := 41 } }
    (s.run.state, s.run.number, s.gen.nextBoundary, sent 0 s) =
      (.running, 42, 12, reply 8 0x0B (.done (.runNumber 42))) := by decide +kernel

theorem test_stopRun :
    let s := after (.stopRun 0 8) (listening .listening)
    (s.run.state, s.chans[0].phase, s.seqA.state, s.hub.pool.slots) = (.idle, .free, .off, []) := by decide +kernel

/-- A hold on one probe of a waiting pair re-forms the group. -/
theorem test_holdProbe :
    let s := after (.holdProbe 1 8 3)
      { requesting [3, 4] with chans := Vector.replicate 3 (bound .held 19 12 0) }
    (s.run.holds[3], s.seqA.group, s.arb.reqA) = (0b0010, [4], some 1) := by decide +kernel

theorem test_releaseProbe :
    sent 2 (after (.releaseProbe 2 8 3) running) = reply 8 0x0E (.refused .notHeld) ∧
    (after (.releaseProbe 3 8 3)
      { running with run := { running.run with holds := running.run.holds.set 3 0b1000 } }).run.holds[3] = 0 := by
  decide +kernel


/-! ## Witnesses: the hypotheses of every statement are met -/

theorem witness_StepRunsTheFrontCommand :
    (∃ (s : State) (c : Instr) (rest : List Instr), s.pending = c :: rest) ∧ ∃ s : State, s.pending = [] :=
  ⟨⟨{ live with pending := [.speedWindowEnd] }, .speedWindowEnd, [], rfl⟩, ⟨live, rfl⟩⟩

theorem witness_ReleaseAndPresentLines :
    (∃ s : State, s.resetLow = true) ∧
    ∃ (s : State) (p : Port), s.resetLow = false ∧ (s.hub.ctl p).state = .absent :=
  ⟨⟨State.reset, rfl⟩, ⟨released, 3, by decide +kernel⟩⟩

/-- Both directions, at the largest scale, in a run and outside one. -/
theorem witness_ValidCountsGiveTicks :
    ∀ plus off : Bool, ∃ (s : State) (a b : Bool), s.resetLow = false ∧ s.odo.rem < s.odo.den ∧
      a = (if plus then !s.odo.lineB else s.odo.lineB) ∧ b = (if plus then s.odo.lineA else !s.odo.lineA) ∧
      s.odo.num = 8 * s.odo.den ∧ (s.gen.state = .off ↔ off = true) :=
  fun plus off =>
    ⟨{ (if off then live else running) with odo := { live.odo with num := 8 } }, plus, !plus,
      by revert plus off; decide +kernel⟩

theorem witness_EncoderFaultIsNoted : ∃ s : State, s.resetLow = false ∧ s.run.state = .running :=
  ⟨running, by decide +kernel⟩

/-- A generator that is not OFF, its displacement at either end of the range after the tick. -/
theorem witness_TickMovesTheFrontier :
    (∃ s : State, s.gen.state = .off) ∧
    ∀ plus : Bool, ∃ (s : State) (x : Int), s.gen.state ≠ .off ∧
      x = s.gen.disp.toInt +
        (if s.gen.source = .reverse then (if plus then -1 else 1) else if plus then 1 else -1) ∧
      -(2 ^ 47) ≤ x ∧ x < 2 ^ 47 ∧ (x = if plus then 2 ^ 47 - 1 else -(2 ^ 47)) :=
  ⟨⟨live, by decide +kernel⟩, fun plus =>
    ⟨{ running with gen := { running.gen with disp := if plus then 0x7FFFFFFFFFFE else 0x800000000001 } },
      if plus then 2 ^ 47 - 1 else -(2 ^ 47), by revert plus; decide +kernel⟩⟩

/-- A boundary reached with rail A busy, a tick of the lag, and the tick that closes it. -/
theorem witness_StepsAreIssuedAtBoundaries :
    (∃ (s : State) (plus : Bool), s.gen.state = .issuing ∧ s.gen.source ≠ .timed ∧ s.plan.commit ≠ .pending ∧
      s.gen.disp = s.gen.frontier ∧ plus = decide (s.gen.source = .forward) ∧ s.gen.frontier.toInt + 1 < 2 ^ 47 ∧
      s.gen.frontier.toInt + 1 = (s.gen.nextBoundary : Int) ∧
      (s.seq .a).state = .listening ∧ (s.seq .a).waiting = none ∧ s.arb.req .a = none) ∧
    ∀ d : Fin 2, ∃ (s : State) (plus : Bool) (x : Int), s.gen.state ≠ .off ∧
      x = s.gen.disp.toInt +
        (if s.gen.source = .reverse then (if plus then -1 else 1) else if plus then 1 else -1) ∧
      -(2 ^ 47) ≤ x ∧ x < 2 ^ 47 ∧ x ≤ s.gen.frontier.toInt ∧ (x = 23 + d.val) :=
  ⟨⟨rollback 0 9 9 10 0 false false, true, by decide +kernel⟩, fun d =>
    ⟨rollback 0 (if d = 0 then 24 else 23) 24 30 2 false false, decide (d = 1), 23 + d.val,
      by revert d; decide +kernel⟩⟩

theorem witness_SpeedWindowTakesTheTally : ∃ s : State, s.resetLow = false ∧ s.odo.tally = -7 :=
  ⟨{ live with odo := { live.odo with tally := -7 } }, by decide +kernel⟩

/-- Both actions with the counter at the lockout; and one count short of it. -/
theorem witness_MarkerEdgesAreAcceptedOrIgnored :
    (∀ load : Bool, ∃ (s : State) (m : Marker) (level : Bool), s.resetLow = false ∧
      (s.odo.marker m).level ≠ level ∧ ((s.odo.marker m).edge = .rising ↔ level = true) ∧
      (s.odo.marker m).enabled = true ∧ (s.odo.marker m).lockout ≤ (s.odo.marker m).counter ∧
      (s.odo.marker m).action = if load then .load else .mark) ∧
    ∃ (s : State) (m : Marker) (level : Bool), s.resetLow = false ∧ (s.odo.marker m).level ≠ level ∧
      ((s.odo.marker m).edge = .rising ↔ level = true) ∧ (s.odo.marker m).enabled = true ∧
      (s.odo.marker m).lockout = (s.odo.marker m).counter + 1 :=
  ⟨fun load =>
    ⟨{ live with odo := { live.odo with m1 := { live.odo.m1 with
        enabled := true, lockout := 65535, action := if load then .load else .mark } } }, .m1, true,
      by revert load; decide +kernel⟩,
    ⟨{ live with odo := { live.odo with m0 := { live.odo.m0 with enabled := true, lockout := 2, counter := 1 } } },
      .m0, true, by decide +kernel⟩⟩

/-- A rail that is WAITING and one that is busy; and another source. -/
theorem witness_StepTimerIssuesSteps :
    (∃ s : State, s.resetLow = false ∧ s.gen.state = .issuing ∧ s.gen.source = .timed ∧ s.gen.timer.isSome ∧
      s.seqA.state = .waiting) ∧
    (∃ (s : State) (r : Rail), s.resetLow = false ∧ s.gen.state = .issuing ∧ s.gen.source = .timed ∧
      s.gen.timer.isSome ∧ (s.seq r).state = .listening ∧ (s.seq r).waiting = none ∧ s.arb.req r = none) ∧
    ∃ s : State, s.resetLow = false ∧ ¬ (s.gen.state = .issuing ∧ s.gen.source = .timed) :=
  ⟨⟨{ running with gen := { running.gen with source := .timed, timer := some 1000 } }, by decide +kernel⟩,
    ⟨{ listening .listening with gen := { running.gen with source := .timed, timer := some 1000 } }, .a,
      by decide +kernel⟩,
    ⟨running, by decide +kernel⟩⟩

/-- Rail A with an open skip run up to step 5 and a pending step or none. -/
def skipping (cover : Coverage) (waiting : Option Step) : State :=
  { running with
    seqA := { running.seqA with state := .listening, waiting := waiting, skip := some { first := 4, last := 5, cover := cover } } }

/-- Rail A in its cycle of step 1 with a walk to go on with and a pending step or none, under a bank. -/
def walking (b : Bank) (walk : Link) (waiting : Option Step) : State :=
  { listening .settling with
    plan := { running.plan with bank0 := b }
    seqA := { (listening .settling).seqA with walk := walk, waiting := waiting } }

theorem witness_StepsAreTakenKeptOrMissed :
    (∃ (s : State) (r : Rail), (s.seq r).state = .off) ∧
    (∃ (s : State) (r : Rail), (s.seq r).state = .listening ∧ (s.seq r).waiting = none) ∧
    (∃ (s : State) (r : Rail) (old : Step), (s.seq r).state = .listening ∧ (s.seq r).waiting = some old) ∧
    (∀ k : StepNo, k = 5 ∨ k = 6 → ∃ (s : State) (r : Rail) (run : SkipRun), (s.seq r).skip = some run ∧
      run.cover = .wholeSteps ∧ (k.toNat = run.last.toNat ∨ k.toNat = run.last.toNat + 1)) ∧
    (∀ k : StepNo, k = 5 ∨ k = 6 → ∃ (s : State) (r : Rail) (run : SkipRun) (x : RailProbes),
      (s.seq r).skip = some run ∧ run.cover = .probeSet x ∧
      (k.toNat = run.last.toNat ∨ k.toNat = run.last.toNat + 1)) ∧
    (∃ (s : State) (r : Rail), (s.seq r).skip = none) ∧
    (∃ (s : State) (r : Rail) (k : StepNo) (run : SkipRun), (s.seq r).skip = some run ∧
      ¬ (k.toNat = run.last.toNat ∨ k.toNat = run.last.toNat + 1)) ∧
    ∃ (s : State) (r : Rail) (run : SkipRun) (cover : Coverage), (s.seq r).skip = some run ∧
      run.cover.join cover = none :=
  ⟨⟨live, .a, by decide +kernel⟩, ⟨skipping .wholeSteps none, .a, by decide +kernel⟩,
    ⟨skipping .wholeSteps (some ⟨3, 36⟩), .a, ⟨3, 36⟩, by decide +kernel⟩,
    fun k h => ⟨skipping .wholeSteps none, .a, ⟨4, 5, .wholeSteps⟩, by rcases h with rfl | rfl <;> decide +kernel⟩,
    fun k h => ⟨skipping (.probeSet 3) none, .a, ⟨4, 5, .probeSet 3⟩, 3, by rcases h with rfl | rfl <;> decide +kernel⟩,
    ⟨running, .b, by decide +kernel⟩, ⟨skipping .wholeSteps none, .a, 7, ⟨4, 5, .wholeSteps⟩, by decide +kernel⟩,
    ⟨skipping .wholeSteps none, .a, ⟨4, 5, .wholeSteps⟩, .probeSet 1, by decide +kernel⟩⟩

/-- Groups at a chain's end, before a block without join and with one; a chain of rail B whose one group is passed over,
and one of rail A whose second is due; a WAITING rail with a group due and without; each end of a walk. -/
theorem witness_StepsAreTakenKeptOrMissed_walks :
    (∃ (b : Bank) (i : BlockIx), (b.block i).next = none) ∧
    (∀ join : Bool, ∃ (b : Bank) (i j : BlockIx), (b.block i).next = some j ∧ (b.block j).join = join) ∧
    (∀ ends : Bool, ∃ (s : State) (st : Step) (walk : Nat → Link),
      (∀ n < 1, ∃ i, walk n = some i ∧ (formGroup s.bank i).2 = walk (n + 1) ∧
        ∀ j ∈ (formGroup s.bank i).1, isDue s.bank s.run.holds st.no j = false) ∧
      if ends then walk 1 = none
      else ∃ i, walk 1 = some i ∧ ∃ j ∈ (formGroup s.bank i).1, isDue s.bank s.run.holds st.no j = true) ∧
    (∀ due : Bool, ∃ (s : State) (r : Rail) (st : Step), (s.seq r).state = .waiting ∧ (s.seq r).waiting = none ∧
      ((s.nextGroup st (s.bank.head r)).1 ≠ [] ↔ due = true)) ∧
    (∃ (s : State) (r : Rail) (st : Step), (s.seq r).current = some st ∧ (s.nextGroup st (s.seq r).walk).1 ≠ []) ∧
    (∃ (s : State) (r : Rail) (st : Step), (s.seq r).current = some st ∧ (s.nextGroup st (s.seq r).walk).1 = [] ∧
      (s.seq r).waiting = none) ∧
    ∀ due : Bool, ∃ (s : State) (r : Rail) (st next : Step), (s.seq r).current = some st ∧
      (s.nextGroup st (s.seq r).walk).1 = [] ∧ (s.seq r).waiting = some next ∧
      ((s.nextGroup next (s.bank.head r)).1 ≠ [] ↔ due = true) := by
  refine ⟨⟨exampleBank 100 13, 4, by decide +kernel⟩, fun join => ?_, fun ends => ?_, fun due => ?_,
    ⟨walking (exampleBank 100 13) (some 1) none, .a, ⟨1, 12⟩, by decide +kernel⟩,
    ⟨walking (exampleBank 100 13) none none, .a, ⟨1, 12⟩, by decide +kernel⟩, fun due => ?_⟩
  · cases join
    · exact ⟨exampleBank 100 13, 0, 1, by decide +kernel⟩
    · exact ⟨exampleBank 100 13, 1, 2, by decide +kernel⟩
  · cases ends
    · refine ⟨running, ⟨1, 12⟩, fun n => if n = 0 then some 1 else some 3, fun n h => ⟨1, ?_⟩, 3, ?_⟩
      · cases Nat.lt_one_iff.mp h; decide +kernel
      · decide +kernel
    · refine ⟨running, ⟨2, 24⟩, fun n => if n = 0 then some 20 else none, fun n h => ⟨20, ?_⟩, rfl⟩
      cases Nat.lt_one_iff.mp h; decide +kernel
  · cases due
    · exact ⟨{ running with plan := { running.plan with bank0 := emptyPlan } }, .a, ⟨1, 12⟩, by decide +kernel⟩
    · exact ⟨running, .b, ⟨1, 12⟩, by decide +kernel⟩
  · cases due
    · exact ⟨walking emptyPlan none (some ⟨2, 24⟩), .a, ⟨1, 12⟩, ⟨2, 24⟩, by decide +kernel⟩
    · exact ⟨walking (exampleBank 100 13) none (some ⟨2, 24⟩), .a, ⟨1, 12⟩, ⟨2, 24⟩, by decide +kernel⟩

/-- A pair of different probes that finds just 18 FREE slots while a port's snapshot entry waits for one of them. -/
theorem witness_GrantFiresTheGroup :
    ∃ (s : State) (r : Rail) (st : Step) (k : Nat), s.hub.pool.wf = true ∧ s.arb.req r = some k ∧
      (s.seq r).current = some st ∧ (s.seq r).group.length = k ∧ (s.seq r).group.Nodup ∧ k ≤ s.freeChans.length ∧
      k + 16 = s.hub.pool.freeSlots ∧ ((s.seq r).group.map (fun i => (s.bank.block i).probe)).Nodup ∧
      ∃ q i, i ∈ (s.seq r).group ∧ (s.hub.dist q).snap = .waiting (s.bank.block i).probe :=
  ⟨withDist (withPool (requesting [3, 4]) (filled 1006)) 1 (fun d => { d with snap := .waiting 4 }), .a, ⟨1, 12⟩, 2,
    by decide +kernel, by decide +kernel, by decide +kernel, by decide +kernel, by decide +kernel, by decide +kernel,
    by decide +kernel, by decide +kernel, 1, 4, by decide +kernel, by decide +kernel⟩

/-- A request with one channel too few, and one with one slot too few; passes in which the higher rail waits, has no
request, is granted or is refused. -/
theorem witness_PassesGrantWaitOrOmit :
    (∃ (s : State) (r : Rail), s.arb.req r = none) ∧
    (∃ (s : State) (r : Rail) (st : Step) (k : Nat), s.arb.req r = some k ∧ (s.seq r).current = some st ∧
      s.freeChans.length + 1 = k) ∧
    (∃ (s : State) (r : Rail) (st : Step) (k : Nat), s.arb.req r = some k ∧ (s.seq r).current = some st ∧
      k ≤ s.freeChans.length ∧ s.hub.pool.freeSlots + 1 = k + 16) ∧
    ∀ v : Verdict, ∃ (s : State) (t : State), s.consider s.higherRail = (t, v) := by
  have w : ∀ (s : State) (v : Verdict), (s.consider s.higherRail).2 = v → ∃ s t : State, s.consider s.higherRail = (t, v) :=
    fun s v h => ⟨s, _, Prod.ext rfl h⟩
  refine ⟨⟨running, .a, by decide +kernel⟩,
    ⟨{ requesting [3, 4] with chans := #v[bound .held 19 12 0, bound .held 19 12 1, Channel.reset] }, .a, ⟨1, 12⟩, 2,
      by decide +kernel⟩,
    ⟨withPool (requesting [3, 4]) (filled 1007), .a, ⟨1, 12⟩, 2, by decide +kernel⟩, fun v => ?_⟩
  cases v
  · exact w running _ (by decide +kernel)
  · exact w { requesting [3, 4] with chans := Vector.replicate 3 (bound .held 19 12 0) } _ (by decide +kernel)
  · exact w (requesting [3, 4]) _ (by decide +kernel)
  · exact w (withPool (requesting [3, 4]) (filled 1007)) _ (by decide +kernel)

theorem witness_SettleEndHoldsOrReleases :
    (∃ (s : State) (c d : Chan) (b e : Binding), s.resetLow = false ∧ s.chans[c].phase = .settling ∧
      s.chans[c].binding = some b ∧ d ≠ c ∧ s.chans[d].binding = some e ∧ e.rail = b.rail ∧
      (s.chans[d].phase = .listening ∨ s.chans[d].phase = .settling)) ∧
    ∃ (s : State) (c : Chan) (b : Binding) (st : Step), s.resetLow = false ∧ s.chans[c].phase = .settling ∧
      s.chans[c].binding = some b ∧
      (∀ (d : Chan) (e : Binding), d ≠ c → s.chans[d].binding = some e → e.rail = b.rail →
        s.chans[d].phase ≠ .listening ∧ s.chans[d].phase ≠ .settling) ∧
      s.arb.reqA = none ∧ s.arb.reqB = none ∧ s.run.state = .running ∧ s.plan.commit ≠ .pending ∧
      (s.seq b.rail).current = some st ∧ (s.seq b.rail).waiting = none ∧
      (s.nextGroup st (s.seq b.rail).walk).1 = [] :=
  ⟨⟨{ listening .settling with chans := (listening .settling).chans.set 1 (bound .listening 4 4 1) }, 0, 1,
      ⟨.a, 0, 0, 0, some 10, some 1⟩, ⟨.a, 4, 4, 1, some 10, some 1⟩, by decide +kernel⟩,
    ⟨listening .settling, 0, ⟨.a, 0, 0, 0, some 10, some 1⟩, ⟨1, 12⟩, by decide +kernel, by decide +kernel,
      by decide +kernel,
      fun d e hd he => absurd he (by
        have h : ∀ d : Chan, d ≠ 0 → (listening .settling).chans[d].binding = none := by decide +kernel
        rw [show (listening .settling).chans[d].binding = none from h d hd]; exact fun h => nomatch h),
      by decide +kernel⟩⟩

/-- A settle time of 0 and one above. -/
theorem witness_WindowEndCompletesTheShot :
    ∀ zero : Bool, ∃ (s : State) (c : Chan) (b : Binding) (n : Nat) (x : Slot) (g : ShotGrant) (rule : ReportRule),
      s.resetLow = false ∧ s.chans[c].phase = .listening ∧ s.chans[c].binding = some b ∧ b.window = some n ∧
      s.hub.pool.slot b.slot = some x ∧ x.content = .shot g rule ∧
      ((s.bank.probe b.probe).fields.settle = 0 ↔ zero = true) :=
  fun zero =>
    ⟨{ listening .listening with
        plan := { running.plan with bank0 := if zero then emptyPlan else exampleBank 100 13 } },
      0, ⟨.a, 0, 0, 0, some 10, some 1⟩, 10, Slot.assembling (.shot shotGrant .onEvent), shotGrant, .onEvent,
      by revert zero; decide +kernel⟩

/-- A gate that ends with the window. -/
theorem witness_PulseGatesReportTheirPeak :
    ∃ (e : ProbeEntry) (i : Place) (g : Gate) (samples : List Sample), e.gates[i] = some g ∧ g.origin = .pulse ∧
      1 ≤ g.width ∧ 5 * (g.start + g.width) = samples.length :=
  ⟨entryOf 2 0 none (gate .loss .pulse 1 1 200), 1, ⟨.loss, .pulse, 1, 1, 200⟩, List.replicate 10 7, by decide +kernel⟩

/-- A crossing with the INTERFACE gate ending with the window, and no crossing. -/
theorem witness_InterfaceGatesFollowTheCrossing :
    ∃ (e : ProbeEntry) (i j : Place) (g c : Gate), couplingGateOf e = some (j, c) ∧ c.origin = .pulse ∧
      e.gates[i] = some g ∧ g.origin = .interface ∧ 1 ≤ g.width ∧
      (∃ (samples : List Sample) (n : Nat) (v : Sample), 5 * c.start ≤ n ∧ n < 5 * (c.start + c.width) ∧
        samples[n]? = some v ∧ c.threshold ≤ v.val ∧
        (∀ k w, 5 * c.start ≤ k → k < n → samples[k]? = some w → w.val < c.threshold) ∧
        n + 5 * (g.start + g.width) = samples.length) ∧
      ∃ samples : List Sample,
        ∀ k w, 5 * c.start ≤ k → k < 5 * (c.start + c.width) → samples[k]? = some w → w.val < c.threshold :=
  ⟨entryOf 3 0 (gate .coupling .pulse 0 1 200) (gate .loss .interface 0 1 150), 1, 0, ⟨.loss, .interface, 0, 1, 150⟩,
    ⟨.coupling, .pulse, 0, 1, 200⟩, by decide +kernel, rfl, by decide +kernel, rfl, by decide,
    ⟨[200, 1, 1, 1, 1], 0, 200, by decide, by decide, by decide, by decide, fun k _ _ h => absurd h (Nat.not_lt_zero k),
      by decide⟩,
    ⟨[], fun k w _ _ h => by simp at h⟩⟩

theorem witness_ExcerptSamplesAreGroupMaxima : ∃ (len : Nat) (samples : List Sample), 1 ≤ len ∧ len = samples.length :=
  ⟨64, List.replicate 64 1, by decide⟩

theorem witness_AlarmSaturationAndReport : ∃ x : Slot, x.page = none := ⟨queuedSlot, rfl⟩

/-- The running state with the coupling state of probe 11. -/
def coupled (x : ProbeCoupling) : State :=
  { running with coup := { running.coup with probes := running.coup.probes.set 11 x } }

/-- The last miss of a probe, the last hit of an UNCOUPLED one, and a hit that is not its last. -/
theorem witness_CouplingTables_notice :
    (∀ hit : Bool, ∃ (s : State) (p : ProbeNo),
      s.coup.probes[p].state ≠ (s.couple p (some hit) 7).coup.probes[p].state ∧
      (s.coup.probes[p].state = .uncoupled ∨ (s.couple p (some hit) 7).coup.probes[p].state = .uncoupled)) ∧
    ∃ (s : State) (p : ProbeNo), ¬ (s.coup.probes[p].state ≠ (s.couple p (some true) 7).coup.probes[p].state ∧
      (s.coup.probes[p].state = .uncoupled ∨ (s.couple p (some true) 7).coup.probes[p].state = .uncoupled)) :=
  ⟨fun hit => ⟨coupled (if hit then ⟨.uncoupled, 0, 2⟩ else ⟨.doubt, 2, 0⟩), 11, by revert hit; decide +kernel⟩,
    ⟨coupled ⟨.uncoupled, 0, 1⟩, 11, by decide +kernel⟩⟩

/-- Each clause at the values on either side of its bound. -/
theorem witness_CouplingTables :
    (∃ x : ProbeCoupling, x.state ≠ .uncoupled) ∧
    (∃ (x : ProbeCoupling) (m : Nat), x.state = .uncoupled ∧ x.recoveries + 2 = m) ∧
    (∃ (x : ProbeCoupling) (m : Nat), x.state = .uncoupled ∧ m = x.recoveries + 1) ∧
    (∃ (x : ProbeCoupling) (n : Nat), x.state ≠ .uncoupled ∧ x.misses + 2 = n) ∧
    (∃ (x : ProbeCoupling) (n : Nat), x.state ≠ .uncoupled ∧ n = x.misses + 1) ∧
    ∃ x : ProbeCoupling, x.state = .uncoupled :=
  ⟨⟨⟨.doubt, 2, 0⟩, by decide⟩, ⟨⟨.uncoupled, 0, 13⟩, 15, by decide⟩, ⟨⟨.uncoupled, 0, 14⟩, 15, by decide⟩,
    ⟨⟨.doubt, 13, 0⟩, 15, by decide⟩, ⟨⟨.coupled, 0, 0⟩, 1, by decide⟩, ⟨⟨.uncoupled, 0, 1⟩, by decide⟩⟩

/-- The hub of the live part with P1's general flag on and one slot taken. -/
def hubWith (slots : List (Nat × Slot)) : Hub :=
  (withDist live 1 (fun d => { d with general := true })).hub.withPool { Pool.reset with slots := slots }

theorem witness_SequenceNumbersSkipZero :
    (∃ x : BitVec 32, x ≠ 0xFFFFFFFF#32) ∧
    ∃ (h : Hub) (n : Nat) (r : Rec) (x : Slot), h.pool.wf = true ∧ (h.fanOut n r).pool.slot n = some x ∧
      h.pool.slot n ≠ none :=
  ⟨⟨0, by decide⟩, ⟨hubWith [(1023, Slot.assembling (.unnumbered notice))], 1023, notice,
    { phase := .queued, refs := 1, content := .record 1 notice, page := none }, by decide +kernel⟩⟩

/-- The record of a shot. -/
def shotRec : Rec :=
  { notice with body := .shot { grant := shotGrant, coupling := .coupled, alarmed := false, saturated := false, gates := [] } }

/-- P1 holds a TAKE and subscribes to every stream, its snapshot entry CLAIMED by the shot of slot 1023; its transmit
side is idle or sends a refusal. -/
def shotWanted (sending : Option Sending) : Hub :=
  let h := (hubWith [(1023, Slot.assembling (.shot shotGrant .always))])
  (h.setCtl 1 { h.ctl 1 with state := .heldTake, take := some ⟨22, 4, 0⟩, sending := sending }).setDist 1
    { h.dist 1 with subs := (h.dist 1).subs.set 0 ⟨true, 0, 0⟩, snap := .claimed 0 1023 }

/-- A port that holds no TAKE, one that holds a TAKE with its transmit side idle, and one with it busy; an entry bound to
the shot. -/
theorem witness_FanOutReachesEveryPortThatWants :
    (∃ (h : Hub) (n : Nat) (x : Slot) (q : Port), h.pool.wf = true ∧ h.pool.slot n = some x ∧
      (h.ctl q).state ≠ .heldTake) ∧
    (∃ (h : Hub) (n : Nat) (r : Rec) (x : Slot) (q : Port), h.pool.wf = true ∧ h.pool.slot n = some x ∧
      (h.ctl q).state = .heldTake ∧ ((h.fanOut n r).dist q).queue ≠ [] ∧ (h.ctl q).sending ≠ none) ∧
    ∃ (h : Hub) (n : Nat) (r : Rec) (x : Slot) (q : Port) (j : TakeJob), h.pool.wf = true ∧ h.pool.slot n = some x ∧
      (∃ shot, r.body = .shot shot) ∧ (∃ p, (h.dist q).snap = .claimed p n) ∧ (h.ctl q).state = .heldTake ∧
      (h.ctl q).take = some j ∧ j.left ≠ 0 ∧ (h.ctl q).sending = none ∧ (h.ctl q).refusals = [] ∧
      (h.ctl q).answers = [] ∧ (h.dist q).queue = [] ∧ (h.dist q).gap = none ∧
      ((h.dist q).wants n r && ((h.dist q).offer (nextSeq h.pool.seq) n).2) = true :=
  ⟨⟨hubWith [(1023, queuedSlot)], 1023, queuedSlot, 1, by decide +kernel⟩,
    ⟨shotWanted (some (.refusal frameErrorFrame)), 1023, shotRec, Slot.assembling (.shot shotGrant .always), 1,
      by decide +kernel⟩,
    ⟨shotWanted none, 1023, shotRec, Slot.assembling (.shot shotGrant .always), 1, ⟨22, 4, 0⟩, by decide +kernel,
      by decide +kernel, ⟨_, rfl⟩, ⟨0, by decide +kernel⟩, by decide +kernel⟩⟩

theorem witness_RecordsArePlacedPendedOrLost :
    (∃ (h : Hub) (n : Nat), h.pool.waiting = [] ∧ h.pool.firstFreeSlot = some n) ∧
    (∃ h : Hub, h.pool.firstFreeSlot = none ∧ h.pool.waiting.length = 7) ∧
    ∃ h : Hub, h.pool.firstFreeSlot = none ∧ h.pool.waiting.length = 8 :=
  ⟨⟨live.hub.withPool (filled 1023), 1023, by decide +kernel⟩,
    ⟨live.hub.withPool { filled 1024 with waiting := List.replicate 7 notice }, by decide +kernel⟩,
    ⟨live.hub.withPool { filled 1024 with waiting := List.replicate 8 notice }, by decide +kernel⟩⟩

/-- Two records pending among them. -/
theorem witness_ReleasesFreeSlotsAndReportLosses :
    (∃ (h : Hub) (n : Nat) (x : Slot), h.pool.slot n = some x ∧ x.refs = 2) ∧
    (∃ (h : Hub) (n : Nat) (x : Slot), h.pool.slot n = some x ∧ x.refs = 1 ∧ h.pool.waiting = []) ∧
    (∃ (h : Hub) (n : Nat) (x : Slot) (r : Rec) (rest : List Rec), h.pool.wf = true ∧ h.pool.slot n = some x ∧
      x.refs = 1 ∧ h.pool.waiting = r :: rest ∧ rest ≠ [] ∧ h.pool.firstFreeSlot = none) ∧
    (∃ h : Hub, h.pool.waiting = []) ∧ (∃ h : Hub, h.pool.firstFreeSlot = none) ∧
    (∃ (h : Hub) (r : Rec) (rest : List Rec) (m : Nat), h.pool.waiting = r :: rest ∧ rest ≠ [] ∧
      h.pool.firstFreeSlot = some m) ∧
    (∃ (s : State) (n : Nat), s.hub.pool.waiting = [] ∧ s.hub.pool.lost ≠ 0 ∧ s.hub.pool.firstFreeSlot = some n) ∧
    (∃ s : State, s.hub.pool.waiting ≠ []) ∧ (∃ s : State, s.hub.pool.lost = 0) ∧
    ∃ s : State, s.hub.pool.firstFreeSlot = none :=
  ⟨⟨hubWith [(3, { queuedSlot with refs := 2 })], 3, { queuedSlot with refs := 2 }, by decide +kernel⟩,
    ⟨hubWith [(3, queuedSlot)], 3, queuedSlot, by decide +kernel⟩,
    ⟨live.hub.withPool { filled 1024 with waiting := [notice, notice] }, 1023, queuedSlot, notice, [notice],
      by decide +kernel⟩,
    ⟨live.hub, by decide +kernel⟩, ⟨live.hub.withPool (filled 1024), by decide +kernel⟩,
    ⟨live.hub.withPool { filled 1023 with waiting := [notice, notice] }, notice, [notice], 1023, by decide +kernel⟩,
    ⟨withPool live { filled 1023 with lost := 1 }, 1023, by decide +kernel⟩,
    ⟨withPool live { filled 1024 with waiting := [notice] }, by decide +kernel⟩, ⟨live, by decide +kernel⟩,
    ⟨withPool live (filled 1024), by decide +kernel⟩⟩

theorem witness_QueuesTakeOffersOrKeepGaps :
    (∃ d : PortDist, d.gap = none ∧ d.queue.length = 255) ∧ (∃ d : PortDist, d.gap = none ∧ d.queue.length = 256) ∧
    (∃ (d : PortDist) (g : Gap), d.gap = some g ∧ d.queue.length + 2 = 256) ∧
    ∃ (d : PortDist) (g : Gap), d.gap = some g ∧ d.queue.length + 2 = 257 ∧ g.count = 0xFFFFFFFF#32 :=
  ⟨⟨{ PortDist.reset with queue := List.replicate 255 (.ref 0) }, by decide +kernel⟩,
    ⟨{ PortDist.reset with queue := List.replicate 256 (.ref 0) }, by decide +kernel⟩,
    ⟨{ PortDist.reset with queue := List.replicate 254 (.ref 0), gap := some ⟨1, 1, 1⟩ }, ⟨1, 1, 1⟩, by decide +kernel⟩,
    ⟨{ PortDist.reset with queue := List.replicate 255 (.ref 0), gap := some ⟨0xFFFFFFFF, 1, 1⟩ }, ⟨0xFFFFFFFF, 1, 1⟩,
      by decide +kernel⟩⟩

theorem witness_PortsWantWhatTheyAskedFor :
    (∃ x : Shot, x.grant.rail = .a ∧ x.grant.probe.val = 11) ∧ (∃ x : Shot, x.grant.rail = .b ∧ x.grant.probe.val = 12) ∧
    ∃ b : Body, b.general = true :=
  ⟨⟨⟨{ shotGrant with probe := 11 }, .coupled, false, false, []⟩, by decide⟩,
    ⟨⟨{ shotGrant with rail := .b, probe := 12 }, .coupled, false, false, []⟩, by decide⟩, ⟨notice.body, by decide⟩⟩

/-- A port with its refusal list full or empty, for a request or a BUSY_REFUSAL; a request on an ABSENT port; an unlisted
kind. -/
theorem witness_BusyAndUnknownRequestsAreRefused :
    (∀ n : Fin 5, ∃ (c : Instr) (q : Request) (s : State), requestOf c = some q ∧ c.wellFormed = true ∧
      s.resetLow = false ∧ (s.hub.ctl q.port).state = .answering ∧ (s.hub.ctl q.port).refusals.length = n.val) ∧
    (∃ (c : Instr) (q : Request) (s : State), requestOf c = some q ∧ (s.hub.ctl q.port).state = .absent) ∧
    ∃ (s : State) (p : Port) (kind : Byte), s.takesOn p ∧ knownKind kind = false :=
  ⟨fun n => ⟨.take 1 24 4, ⟨1, 24, 6, [4]⟩,
      withCtl live 1 (fun c => { c with state := .answering, refusals := List.replicate n.val frameErrorFrame }),
      by revert n; decide +kernel⟩,
    ⟨.identify 0 1, ⟨0, 1, 1, []⟩, released, by decide +kernel⟩, ⟨live, 0, 0x0F, live_takes 0, by decide⟩⟩

/-- P1 holds a TAKE. -/
def held : State :=
  withCtl live 1 (fun c => { c with state := .heldTake, take := some ⟨22, 4, 0⟩, holdTime := 50, heldTimer := some 50 })

theorem witness_HeldTakeEndsWithEmptyEnd :
    (∃ (s : State) (p : Port) (j : TakeJob), s.resetLow = false ∧ (s.hub.ctl p).state = .heldTake ∧
      (s.hub.ctl p).take = some j) ∧
    ∃ (c : Instr) (q : Request) (s : State) (j : TakeJob), requestOf c = some q ∧ c.wellFormed = true ∧
      s.resetLow = false ∧ (s.hub.ctl q.port).state = .heldTake ∧ (s.hub.ctl q.port).take = some j ∧
      (s.hub.ctl q.port).sending = none ∧ (s.hub.ctl q.port).refusals = [] ∧ (s.hub.ctl q.port).answers = [] :=
  ⟨⟨held, 1, ⟨22, 4, 0⟩, by decide +kernel⟩, ⟨.readStatus 1 23, ⟨1, 23, 2, []⟩, held, ⟨22, 4, 0⟩, by decide +kernel⟩⟩

theorem witness_FramingErrorsAreRefused :
    (∀ len : Byte, len = 3 ∨ len = 63 → ∃ (s : State) (p : Port), s.resetLow = false ∧ (s.hub.ctl p).state ≠ .absent ∧
      (s.hub.ctl p).rx = [] ∧ ¬ (4 ≤ len.toNat ∧ len.toNat ≤ 62)) ∧
    (∀ len : Byte, len = 4 ∨ len = 62 → ∃ inner check : List Byte, 4 ≤ len.toNat ∧ len.toNat ≤ 62 ∧ check.length = 2 ∧
      inner.length + 2 = len.toNat ∧ check ≠ checkBytes (len :: inner)) ∧
    (∃ (len kind : Byte) (payload : List Byte) (n : Nat), 4 ≤ len.toNat ∧ len.toNat ≤ 62 ∧
      payload.length + 4 = len.toNat ∧ payloadLength kind = some n ∧ payload.length ≠ n) ∧
    (∃ (s : State) (p : Port), s.resetLow = false ∧ (s.hub.ctl p).rx ≠ []) ∧
    (∃ (s : State) (p : Port) (c : Byte), s.resetLow = false ∧ (s.hub.ctl p).rx = [] ∧ c ≠ 0xA5) ∧
    ∃ (s : State) (p : Port), (s.hub.ctl p).state = .absent :=
  ⟨fun len h => ⟨live, 1, by decide +kernel, by decide +kernel, by decide +kernel,
      by rcases h with rfl | rfl <;> decide⟩,
    fun len h => ⟨List.replicate (len.toNat - 2) 0, [0, 0], by rcases h with rfl | rfl <;> decide +kernel⟩,
    ⟨5, 1, [0], 0, by decide⟩, ⟨withCtl live 1 (fun c => { c with rx := [0xA5] }), 1, by decide +kernel⟩,
    ⟨live, 1, 0, by decide +kernel⟩, ⟨released, 1, by decide +kernel⟩⟩

theorem witness_RequestFramesActAsRequests :
    ∃ (c : Instr) (q : Request) (s : State), requestOf c = some q ∧ c.wellFormed = true ∧ (s.hub.ctl q.port).rx = [] :=
  ⟨.setPosition 2 8 0x01020304, ⟨2, 8, 0x18, [4, 3, 2, 1]⟩, editing, by decide +kernel⟩

/-- P0 ANSWERING with frames being sent and waiting, a TAKE, a queue and a gap. -/
def sending (sending : Option Sending) (refusals answers : List TxFrame) (take : Option TakeJob) (queue : List Entry)
    (gap : Option Gap) : State :=
  withDist (withPool (withCtl live 0 (fun c => { c with state := .answering, sending := sending, refusals := refusals,
                                                        answers := answers, take := take })) (filled 1)) 0
    (fun d => { d with queue := queue, gap := gap })

/-- A refusal or an answer sent, with refusals, answers, a TAKE or nothing to follow; an answer sent in HELD_TAKE; an entry
sent. -/
theorem witness_FrameSentChoosesTheNextFrame :
    (∀ answer : Bool, ∃ (s : State) (p : Port) (f g : TxFrame) (rest : List TxFrame), s.resetLow = false ∧
      (s.hub.ctl p).sending = some (if answer then .answer f else .refusal f) ∧ (s.hub.ctl p).refusals = g :: rest) ∧
    (∀ answer : Bool, ∃ (s : State) (p : Port) (f g : TxFrame) (rest : List TxFrame), s.resetLow = false ∧
      (s.hub.ctl p).sending = some (if answer then .answer f else .refusal f) ∧ (s.hub.ctl p).refusals = [] ∧
      (s.hub.ctl p).answers = g :: rest) ∧
    (∀ answer : Bool, ∃ (s : State) (p : Port) (f : TxFrame), s.resetLow = false ∧
      (s.hub.ctl p).sending = some (if answer then .answer f else .refusal f) ∧ (s.hub.ctl p).refusals = [] ∧
      (s.hub.ctl p).answers = [] ∧ (s.hub.ctl p).take = none ∧ (s.hub.ctl p).state = .answering) ∧
    (∃ (s : State) (p : Port) (f : TxFrame), s.resetLow = false ∧ (s.hub.ctl p).sending = some (.answer f) ∧
      (s.hub.ctl p).refusals = [] ∧ (s.hub.ctl p).answers = [] ∧ (s.hub.ctl p).state = .heldTake) ∧
    (∀ answer : Bool, ∃ (s : State) (p : Port) (f : TxFrame) (j : TakeJob), s.resetLow = false ∧
      (s.hub.ctl p).sending = some (if answer then .answer f else .refusal f) ∧ (s.hub.ctl p).refusals = [] ∧
      (s.hub.ctl p).answers = [] ∧ (s.hub.ctl p).take = some j ∧ (s.hub.ctl p).state = .answering) ∧
    ∃ (s : State) (p : Port) (f : TxFrame) (e : Entry) (rest : List Entry) (j : TakeJob), s.resetLow = false ∧
      (s.hub.ctl p).sending = some (.entry f) ∧ (s.hub.dist p).queue = e :: rest ∧ (s.hub.ctl p).take = some j :=
  let f := frameErrorFrame
  let x := fun answer : Bool => some (if answer then Sending.answer f else .refusal f)
  ⟨fun a => ⟨sending (x a) [f] [] none [] none, 0, f, f, [], by revert a; decide +kernel⟩,
    fun a => ⟨sending (x a) [] [f] none [] none, 0, f, f, [], by revert a; decide +kernel⟩,
    fun a => ⟨sending (x a) [] [] none [] none, 0, f, by revert a; decide +kernel⟩,
    ⟨withCtl (sending (x true) [] [] (some ⟨1, 1, 0⟩) [] none) 0 (fun c => { c with state := .heldTake }), 0, f,
      by decide +kernel⟩,
    fun a => ⟨sending (x a) [] [] (some ⟨1, 1, 0⟩) [.ref 0] none, 0, f, ⟨1, 1, 0⟩, by revert a; decide +kernel⟩,
    ⟨sending (some (.entry f)) [] [] (some ⟨1, 1, 0⟩) [.ref 0] none, 0, f, .ref 0, [], ⟨1, 1, 0⟩, by decide +kernel⟩⟩

/-- An idle transmit side in a TAKE, with frames that wait; with the count at 0 or the queue empty; with a reference, a
marker, or a gap to send. -/
theorem witness_FrameSentChoosesTheNextFrame_take :
    (∀ answer : Bool, ∃ (h : Hub) (p : Port) (j : TakeJob), (h.ctl p).sending = none ∧ (h.ctl p).state = .answering ∧
      (h.ctl p).take = some j ∧ if answer then (h.ctl p).answers ≠ [] else (h.ctl p).refusals ≠ []) ∧
    (∀ n : Fin 2, ∃ (h : Hub) (p : Port) (j : TakeJob), (h.ctl p).sending = none ∧ (h.ctl p).state = .answering ∧
      (h.ctl p).take = some j ∧ (h.ctl p).refusals = [] ∧ (h.ctl p).answers = [] ∧ j.left = n.val ∧
      (j.left = 0 ∨ ((h.dist p).queue = [] ∧ (h.dist p).gap = none))) ∧
    (∃ (h : Hub) (p : Port) (j : TakeJob) (n : Nat) (rest : List Entry) (seq : BitVec 32) (r : Rec) (x : Slot),
      (h.ctl p).sending = none ∧ (h.ctl p).state = .answering ∧ (h.ctl p).take = some j ∧ (h.ctl p).refusals = [] ∧
      (h.ctl p).answers = [] ∧ j.left = 1 ∧ (h.dist p).queue = .ref n :: rest ∧ h.pool.slot n = some x ∧
      x.content = .record seq r) ∧
    (∃ (h : Hub) (p : Port) (j : TakeJob) (g : Gap) (rest : List Entry),
      (h.ctl p).sending = none ∧ (h.ctl p).state = .answering ∧ (h.ctl p).take = some j ∧ (h.ctl p).refusals = [] ∧
      (h.ctl p).answers = [] ∧ j.left = 1 ∧ (h.dist p).queue = .marker g :: rest) ∧
    ∃ (h : Hub) (p : Port) (j : TakeJob) (g : Gap),
      (h.ctl p).sending = none ∧ (h.ctl p).state = .answering ∧ (h.ctl p).take = some j ∧ (h.ctl p).refusals = [] ∧
      (h.ctl p).answers = [] ∧ j.left = 1 ∧ (h.dist p).queue = [] ∧ (h.dist p).gap = some g :=
  let f := frameErrorFrame
  let j : TakeJob := ⟨1, 1, 0⟩
  ⟨fun a => ⟨(sending none (if a then [] else [f]) [f] (some j) [] none).hub, 0, j, by revert a; decide +kernel⟩,
    fun n => ⟨(sending none [] [] (some ⟨1, n.val, 5⟩) [] none).hub, 0, ⟨1, n.val, 5⟩, by revert n; decide +kernel⟩,
    ⟨(sending none [] [] (some j) [.ref 0] none).hub, 0, j, 0, [], 1, notice, queuedSlot, by decide +kernel⟩,
    ⟨(sending none [] [] (some j) [.marker ⟨1, 1, 1⟩] none).hub, 0, j, ⟨1, 1, 1⟩, [], by decide +kernel⟩,
    ⟨(sending none [] [] (some j) [] (some ⟨1, 1, 1⟩)).hub, 0, j, ⟨1, 1, 1⟩, by decide +kernel⟩⟩

/-- Counts 0 and 33 out of range and 1 and 32 in range; hold time 0 and above; a marker, a reference, a gap to send. -/
theorem witness_TakeSendsHoldsOrEnds :
    (∀ count : Byte, count = 0 ∨ count = 33 → ¬ (1 ≤ count.toNat ∧ count.toNat ≤ 32)) ∧
    (∀ count : Byte, count = 1 ∨ count = 32 → 1 ≤ count.toNat ∧ count.toNat ≤ 32) ∧
    (∀ n : Nat, n = 0 ∨ n = 2000 → ∃ (s : State) (p : Port), s.takesOn p ∧ (s.hub.dist p).queue = [] ∧
      (s.hub.dist p).gap = none ∧ (s.hub.ctl p).holdTime = n) ∧
    (∃ (s : State) (p : Port) (g : Gap) (rest : List Entry), s.resetLow = false ∧ (s.hub.ctl p).state = .ready ∧
      (s.hub.ctl p).sending = none ∧ (s.hub.ctl p).refusals = [] ∧ (s.hub.ctl p).answers = [] ∧
      (s.hub.dist p).queue = .marker g :: rest) ∧
    (∃ (s : State) (p : Port) (n : Nat) (rest : List Entry) (seq : BitVec 32) (r : Rec) (x : Slot),
      s.resetLow = false ∧ (s.hub.ctl p).state = .ready ∧ (s.hub.dist p).queue = .ref n :: rest ∧
      s.hub.pool.slot n = some x ∧ x.content = .record seq r) ∧
    (∃ (s : State) (p : Port) (g : Gap), (s.hub.ctl p).state = .ready ∧ (s.hub.dist p).queue = [] ∧
      (s.hub.dist p).gap = some g) ∧
    (∃ (s : State) (p : Port), s.takesOn p ∧ (s.hub.dist p).queue ≠ []) ∧
    ∃ (s : State) (p : Port), s.takesOn p ∧ (s.hub.dist p).gap ≠ none :=
  ⟨by rintro _ (rfl | rfl) <;> decide, by rintro _ (rfl | rfl) <;> decide,
    fun n h => ⟨withCtl live 1 (fun c => { c with holdTime := n }), 1,
      by rcases h with rfl | rfl <;> exact takes_of_ready (by decide +kernel),
      by rcases h with rfl | rfl <;> decide +kernel⟩,
    ⟨withDist live 1 (fun d => { d with queue := [.marker ⟨1, 1, 1⟩] }), 1, ⟨1, 1, 1⟩, [], by decide +kernel⟩,
    ⟨withDist (withPool live (filled 1)) 1 (fun d => { d with queue := [.ref 0] }), 1, 0, [], 1, notice, queuedSlot,
      by decide +kernel⟩,
    ⟨withDist live 1 (fun d => { d with gap := some ⟨1, 1, 1⟩ }), 1, ⟨1, 1, 1⟩, by decide +kernel⟩,
    ⟨withDist live 1 (fun d => { d with queue := [.ref 0] }), 1, takes_of_ready (by decide +kernel), by decide +kernel⟩,
    ⟨withDist live 1 (fun d => { d with gap := some ⟨1, 1, 1⟩ }), 1, takes_of_ready (by decide +kernel),
      by decide +kernel⟩⟩

/-- The port holds a probe that no other holds, and the edit right; and an ABSENT port. -/
theorem witness_PortResetClearsThePort :
    (∃ (s : State) (p : Port), s.resetLow = false ∧ (s.hub.ctl p).state ≠ .absent ∧ s.plan.holder = some p ∧
      s.run.holds[23] = portAdd p 0) ∧
    ∃ (s : State) (p : Port), (s.hub.ctl p).state = .absent :=
  ⟨⟨{ editing with run := { editing.run with holds := editing.run.holds.set 23 0b0100 } }, 2, by decide +kernel⟩,
    ⟨released, 2, by decide +kernel⟩⟩

theorem witness_AnswersCarryTheirValues :
    (∀ role : Byte, role = 0 ∨ role = 1 → ∃ (s : State) (p : Port), s.takesOn p ∧ role.toNat ≤ 1) ∧
    ∃ (s : State) (p : Port) (role item index : Byte) (n : Nat), s.takesOn p ∧
      firstOutside n
        [decide (role.toNat ≤ 1), decide (item.toNat ≤ 2),
          if item.toNat = 0 then decide (index.toNat = 0)
          else if item.toNat = 1 then decide (index.toNat ≤ 23)
          else decide (1 ≤ index.toNat ∧ index.toNat ≤ 64)] :=
  ⟨fun role h => ⟨live, 0, live_takes 0, by rcases h with rfl | rfl <;> decide⟩,
    ⟨live, 0, 0, 1, 24, 3, live_takes 0, by unfold firstOutside; decide⟩⟩

/-- The ends of the ranges of hold time and threshold, and the values beyond them. -/
theorem witness_PortSettingsAreReplaced :
    (∃ (s : State) (p : Port) (hold threshold : BitVec 16), s.takesOn p ∧ hold.toNat = 2000 ∧ threshold.toNat = 256) ∧
    (∃ (s : State) (p : Port) (hold threshold : BitVec 16), s.takesOn p ∧ hold.toNat = 2001 ∧ threshold.toNat = 1) ∧
    (∃ (s : State) (p : Port) (hold threshold : BitVec 16), s.takesOn p ∧ hold.toNat = 0 ∧ threshold.toNat = 0) ∧
    (∃ (s : State) (p : Port) (entry matchVal mask enabled : Byte) (n : Nat), s.takesOn p ∧
      firstOutside n
        [decide (entry.toNat ≤ 7), decide (matchVal.toNat ≤ 63), decide (mask.toNat ≤ 63),
          decide (enabled.toNat ≤ 1)]) ∧
    ∃ (s : State) (p : Port) (flag : Byte), s.takesOn p ∧ flag.toNat = 2 :=
  ⟨⟨live, 0, 2000, 256, live_takes 0, by decide⟩, ⟨live, 0, 2001, 1, live_takes 0, by decide⟩,
    ⟨live, 0, 0, 0, live_takes 0, by decide⟩, ⟨live, 0, 7, 63, 64, 1, 3, live_takes 0, by unfold firstOutside; decide⟩,
    ⟨live, 0, 2, live_takes 0, by decide⟩⟩

theorem witness_SnapshotRequests :
    (∃ (s : State) (p : Port), s.takesOn p ∧ ∀ q n, (s.hub.dist p).snap ≠ .claimed q n) ∧
    (∃ (s : State) (p : Port) (q : ProbeNo) (n : Nat), s.takesOn p ∧ (s.hub.dist p).snap = .claimed q n) ∧
    ∃ (s : State) (p : Port) (probe : Byte), s.takesOn p ∧ probe.toNat = 24 :=
  ⟨⟨live, 0, live_takes 0, fun q n h => by cases (show SnapEntry.none = .claimed q n from h)⟩,
    ⟨withDist live 0 (fun d => { d with snap := .claimed 23 9 }), 0, 23, 9, takes_of_ready (by decide +kernel),
      by decide +kernel⟩,
    ⟨live, 0, 24, live_takes 0, by decide⟩⟩

/-- The holder's port is another, or there is no holder. -/
theorem witness_NotHolderComesFirst :
    ∀ s, s = live ∨ s = editing → ∃ (c : Instr) (q : Request), requestOf c = some q ∧ c.wellFormed = true ∧
      needsRight q.kind = true ∧ s.takesOn q.port ∧ s.plan.holder ≠ some q.port :=
  fun s h => ⟨.commit 1 8, ⟨1, 8, 0x15, []⟩, by decide, by decide, by decide,
    by rcases h with rfl | rfl; exacts [live_takes 1, editing_takes 1], by rcases h with rfl | rfl <;> decide +kernel⟩

theorem witness_TheEditRightIsGrantedAndLost :
    (∃ (s : State) (p : Port), s.takesOn p ∧ s.plan.holder = none) ∧
    (∃ (s : State) (p : Port), s.takesOn p ∧ s.plan.holder = some p) ∧
    (∃ (s : State) (p q : Port), s.takesOn p ∧ s.plan.holder = some q ∧ q ≠ p) ∧
    ∃ (s : State) (p : Port) (n : Nat), s.resetLow = false ∧ s.plan.holder = some p ∧ s.plan.idleTimer = some n :=
  ⟨⟨live, 0, live_takes 0, by decide +kernel⟩, ⟨editing, 2, editing_takes 2, by decide +kernel⟩,
    ⟨editing, 0, 2, editing_takes 0, by decide +kernel⟩, ⟨editing, 2, 20, by decide +kernel⟩⟩

/-- The holder in NONE; each item with values at the ends of its ranges. -/
theorem witness_ShadowWritesReplaceOneItem :
    (∃ (s : State) (p : Port), s.takesOn p ∧ s.plan.holder = some p ∧ s.plan.commit = .none) ∧
    (∀ hi : Bool, ∃ x : StepSettings, x.ranged ∧ x.pitch = if hi then 400 else 4) ∧
    (∀ hi : Bool, ∃ x : ProbeFields, x.ranged ∧ x.window = if hi then 4000 else 200) ∧
    (∀ hi : Bool, ∃ g : Gate, g.ranged ∧ g.threshold = if hi then 1023 else 1) ∧
    ∀ hi : Bool, ∃ x : Block, x.ranged ∧ x.decimation = if hi then 16 else 1 :=
  ⟨⟨editing, 2, editing_takes 2, by decide +kernel⟩,
    fun hi => ⟨if hi then ⟨.timed, 400, 100000, .rotating, none, some 63⟩ else ⟨.forward, 4, 100, .fixed, some 0, none⟩,
      by cases hi <;> simp [StepSettings.ranged]⟩,
    fun hi => ⟨if hi then ⟨8, 500, 160, 4000, 500, 15, 15⟩ else ⟨1, 50, 0, 200, 0, 1, 1⟩,
      by cases hi <;> simp [ProbeFields.ranged]⟩,
    fun hi => ⟨if hi then ⟨.loss, .interface, 3999, 4000, 1023⟩ else ⟨.coupling, .pulse, 0, 1, 1⟩,
      by cases hi <;> simp [Gate.ranged]⟩,
    fun hi => ⟨if hi then ⟨true, 23, 16, 15, true, .onEvent, 255, .l512, some 63⟩ else ⟨false, 0, 1, 0, false, .always, 0, .l64, none⟩,
      by cases hi <;> simp [Block.ranged]⟩⟩

/-- A write while COPYING; and in NONE a chain head 65, a recovery run 16, a gate kind 3 and a next field 65 behind
fields at the ends of their ranges. -/
theorem witness_ShadowWritesAreRefused :
    (∃ (c : Instr) (q : Request) (s : State), requestOf c = some q ∧ s.takesOn q.port ∧ s.plan.holder = some q.port ∧
      (∃ p tag a b d e f g, c = .writeStepSettings p tag a b d e f g) ∧ s.plan.commit ≠ .none) ∧
    (∃ (s : State) (p : Port), s.takesOn p ∧ s.plan.holder = some p ∧ s.plan.commit = .none) ∧
    (∃ (source : Byte) (pitch : BitVec 16) (period : BitVec 32) (priority headA headB : Byte),
      firstOutside 6
        [decide (source.toNat ≤ 2), decide (4 ≤ pitch.toNat ∧ pitch.toNat ≤ 400),
          decide (100 ≤ period.toNat ∧ period.toNat ≤ 100000), decide (priority.toNat ≤ 1), decide (headA.toNat ≤ 64),
          decide (headB.toNat ≤ 64)]) ∧
    (∃ (probe level : Byte) (pulseWidth : BitVec 16) (gain : Byte) (window settle : BitVec 16)
        (lossRun recoveryRun : Byte),
      firstOutside 8
        [decide (probe.toNat ≤ 23), decide (1 ≤ level.toNat ∧ level.toNat ≤ 8),
          decide (50 ≤ pulseWidth.toNat ∧ pulseWidth.toNat ≤ 500), decide (gain.toNat ≤ 160),
          decide (200 ≤ window.toNat ∧ window.toNat ≤ 4000), decide (settle.toNat ≤ 500),
          decide (1 ≤ lossRun.toNat ∧ lossRun.toNat ≤ 15), decide (1 ≤ recoveryRun.toNat ∧ recoveryRun.toNat ≤ 15)]) ∧
    (∃ (probe place occupied kind origin : Byte) (start width threshold : BitVec 16),
      firstOutside 4
        ([decide (probe.toNat ≤ 23), decide (place.toNat ≤ 3), decide (occupied.toNat ≤ 1)] ++
          if occupied.toNat = 0 then []
          else
            [decide (kind.toNat ≤ 2), decide (origin.toNat ≤ 1), decide (start.toNat ≤ 3999),
              decide (1 ≤ width.toNat ∧ width.toNat ≤ 4000), decide (1 ≤ threshold.toNat ∧ threshold.toNat ≤ 1023)])) ∧
    ∃ block inUse probe decimation phase join report interval lengthCode next : Byte,
      firstOutside 10
        [decide (1 ≤ block.toNat ∧ block.toNat ≤ 64), decide (inUse.toNat ≤ 1), decide (probe.toNat ≤ 23),
          decide (1 ≤ decimation.toNat ∧ decimation.toNat ≤ 16), decide (phase.toNat ≤ 15), decide (join.toNat ≤ 1),
          decide (report.toNat ≤ 1), decide (interval.toNat ≤ 255), decide (lengthCode.toNat ≤ 3),
          decide (next.toNat ≤ 64)] := by
  refine ⟨⟨.writeStepSettings 2 8 0 12 1000 0 0 0, ⟨2, 8, 0x11, [0, 12, 0, 0xE8, 3, 0, 0, 0, 0, 0]⟩,
      { editing with plan := { editing.plan with commit := .copying } }, by decide +kernel,
      takes_of_ready (by decide +kernel), by decide +kernel, ⟨2, 8, 0, 12, 1000, 0, 0, 0, rfl⟩, by decide +kernel⟩,
    ⟨editing, 2, editing_takes 2, by decide +kernel⟩,
    ⟨2, 400, 100000, 1, 64, 65, ?_⟩, ⟨23, 8, 500, 160, 4000, 500, 15, 16, ?_⟩, ⟨23, 3, 1, 3, 0, 0, 1, 1, ?_⟩,
    ⟨64, 1, 23, 16, 15, 1, 1, 255, 3, 65, ?_⟩⟩ <;> (unfold firstOutside; decide)

/-- P2 edits during the run, rail A in its cycle. -/
def editingInRun (b : Bank) : State :=
  { listening .listening with plan := { (listening .listening).plan with holder := some 2, idleTimer := some 5, bank1 := b } }

theorem witness_CommitChecksThenPendsOrSwaps :
    (∃ (s : State) (p : Port), s.takesOn p ∧ s.plan.holder = some p ∧ s.plan.commit ≠ .none) ∧
    (∃ (s : State) (p : Port) (f : CommitFault), s.takesOn p ∧ s.plan.holder = some p ∧ s.plan.commit = .none ∧
      commitCheck (decide (s.run.state ≠ .idle)) s.bank s.plan.shadowBank = .error f) ∧
    (∃ (s : State) (p : Port) (figs : Figures) (r : Rail), s.takesOn p ∧ s.plan.holder = some p ∧
      s.plan.commit = .none ∧ commitCheck (decide (s.run.state ≠ .idle)) s.bank s.plan.shadowBank = .ok figs ∧
      (s.seq r).state = .listening ∧ s.hub.pool.lost = 0) ∧
    (∃ (s : State) (p : Port) (figs : Figures), s.takesOn p ∧ s.plan.holder = some p ∧ s.plan.commit = .none ∧
      commitCheck (decide (s.run.state ≠ .idle)) s.bank s.plan.shadowBank = .ok figs ∧
      (∀ r, (s.seq r).state = .waiting ∧ (s.seq r).waiting = none) ∧ s.run.state = .running) ∧
    ∃ (s : State) (p : Port) (figs : Figures), s.takesOn p ∧ s.plan.holder = some p ∧ s.plan.commit = .none ∧
      commitCheck false s.bank s.plan.shadowBank = .ok figs ∧ s.run.state = .idle ∧ s.gen.state = .off ∧
      s.seqA.state = .off ∧ s.seqB.state = .off := by
  have hr : ∀ b, (editingInRun b).takesOn 2 := fun b => takes_of_ready ⟨rfl, by
    show ((editingInRun emptyPlan).hub.ctl 2).state = .ready; decide +kernel⟩
  have ok : ∀ b, passes b = true → b.settings.source = .forward →
      ∃ f, commitCheck (decide ((editingInRun b).run.state ≠ .idle)) (editingInRun b).bank b = .ok f := by
    intro b hb hf
    obtain ⟨f, e⟩ := figures_of_passes hb
    exact ⟨f, by rw [commitCheck, if_neg (fun h => h.2 (hf.trans rfl))]; exact e⟩
  refine ⟨⟨{ editing with plan := { editing.plan with commit := .pending } }, 2, takes_of_ready (by decide +kernel),
    by decide +kernel⟩, ?_, ?_, ?_, ?_⟩
  · exact ⟨editingInRun { emptyPlan with settings := { emptySettings with source := .timed } }, 2,
      { kind := .runActive, rail := none, block := none, probe := none, place := none }, hr _, rfl, rfl, rfl⟩
  · obtain ⟨f, e⟩ := ok (exampleBank 100 13) (by decide +kernel) rfl
    exact ⟨editingInRun (exampleBank 100 13), 2, f, .a, hr _, rfl, rfl, e, rfl, rfl⟩
  · obtain ⟨f, e⟩ := ok (exampleBank 100 13) (by decide +kernel) rfl
    exact ⟨{ editingInRun (exampleBank 100 13) with seqA := Sequencer.started }, 2, f, hr (exampleBank 100 13), rfl, rfl, e,
      fun r => by cases r <;> exact ⟨rfl, rfl⟩, rfl⟩
  · obtain ⟨f, e⟩ := figures_of_passes (b := emptyPlan) (by decide +kernel)
    exact ⟨editing, 2, f, editing_takes 2, rfl, rfl, e, rfl, rfl, rfl, rfl⟩

/-- The gates at which each condition of R18 fails, and one that ends with the window. -/
theorem witness_CommitCheckPassesOrFindsTheFirstFault_gates :
    let e := entryOf 800 0 (gate .coupling .pulse 20 80 200) (gate .loss .interface 600 100 150)
    let e' := entryOf 800 0 none (gate .loss .interface 600 100 150)
    (∃ (i : Place) (g : Gate), g.kind = .coupling ∧ couplingBefore e i = true) ∧
    (∃ (i : Place) (g : Gate), couplingBefore e i = false ∧ g.kind = .coupling ∧ g.origin ≠ .pulse) ∧
    (∃ g : Gate, g.kind = .loss ∧ g.origin = .interface ∧ couplingGateOf e' = none) ∧
    (∀ n : Nat, n = 800 ∨ n = 801 → ∃ g : Gate, g.kind = .peak ∧ g.origin = .pulse ∧ g.start + g.width = n ∧
      (e.fields.window < g.start + g.width ↔ n = 801)) ∧
    ∀ n : Nat, n = 800 ∨ n = 801 → ∃ (g : Gate) (j : Place) (x : Gate), g.kind = .loss ∧ g.origin = .interface ∧
      couplingGateOf e = some (j, x) ∧ x.start + x.width + g.start + g.width = n ∧
      (e.fields.window < x.start + x.width + g.start + g.width ↔ n = 801) :=
  ⟨⟨3, ⟨.coupling, .pulse, 0, 1, 1⟩, by decide +kernel⟩, ⟨0, ⟨.coupling, .interface, 0, 1, 1⟩, by decide +kernel⟩,
    ⟨⟨.loss, .interface, 0, 1, 1⟩, by decide +kernel⟩,
    fun n h => ⟨⟨.peak, .pulse, 700, n - 700, 1⟩, by rcases h with rfl | rfl <;> decide +kernel⟩,
    fun n h => ⟨⟨.loss, .interface, 600, n - 700, 1⟩, 0, ⟨.coupling, .pulse, 20, 80, 200⟩,
      by rcases h with rfl | rfl <;> decide +kernel⟩⟩

/-- The worked example's entries pass, whatever the probe of block 21. -/
theorem example_entriesPass : ∀ p : ProbeNo, p = 1 ∨ p = 13 → (exampleBank 100 p).entriesPass := by
  rintro p (rfl | rfl) <;> exact ⟨by decide +kernel, by decide +kernel⟩

/-- The worked example's chain A meets no fault. -/
theorem example_chainA : ∀ p : ProbeNo, p = 1 ∨ p = 13 →
    (exampleBank 100 p).walked .a [] [4, 3, 2, 1, 0] ∧ (exampleBank 100 p).linkAfter .a [4, 3, 2, 1, 0] = none := by
  rintro p (rfl | rfl) <;> (simp only [Bank.walked]; decide +kernel)

/-- A first fault in a gate place, in a phase, in chain A at its head and in chain B after a block; and a bank without
one. -/
theorem witness_CommitCheckPassesOrFindsTheFirstFault :
    (∃ (b : Bank) (p : ProbeNo) (i : Place) (k : FaultKind), b.gateFaultAt p i = some k ∧
      ∀ p' i', p' < p ∨ (p' = p ∧ i' < i) → b.gateFaultAt p' i' = none) ∧
    (∃ (b : Bank) (i : BlockIx), (∀ p j, b.gateFaultAt p j = none) ∧ (b.block i).inUse = true ∧
      (b.block i).decimation = (b.block i).phase ∧
      ∀ j, j < i → (b.block j).inUse = true → (b.block j).phase < (b.block j).decimation) ∧
    (∃ (b : Bank) (i : BlockIx) (k : FaultKind), b.entriesPass ∧ b.walked .a [] [] ∧ b.linkAfter .a [] = some i ∧
      blockFault b .a [] [] i = some k) ∧
    (∃ (b : Bank) (chainA before : List BlockIx) (i : BlockIx) (k : FaultKind), b.entriesPass ∧
      (b.walked .a [] chainA ∧ b.linkAfter .a chainA = none) ∧ b.walked .b chainA before ∧
      b.linkAfter .b before = some i ∧ blockFault b .b chainA before i = some k) ∧
    ∃ (b : Bank) (chainA chainB : List BlockIx), b.entriesPass ∧
      (b.walked .a [] chainA ∧ b.linkAfter .a chainA = none) ∧ b.walked .b chainA chainB ∧
      b.linkAfter .b chainB = none :=
  ⟨⟨exampleBank 101 13, 0, 1, .gateBeyondWindow, by decide +kernel⟩,
    ⟨{ exampleBank 100 13 with blocks := (exampleBank 100 13).blocks.set 63 (blockAt 0 16 16 false none) }, 63,
      by decide +kernel⟩,
    ⟨{ emptyPlan with settings := { emptySettings with headA := some 63 } }, 63, .blockNotInUse,
      ⟨by decide +kernel, by decide +kernel⟩, trivial, by decide +kernel⟩,
    ⟨exampleBank 100 1, [4, 3, 2, 1, 0], [19], 20, .wrongRail, example_entriesPass 1 (.inl rfl),
      example_chainA 1 (.inl rfl), by simp only [Bank.walked]; decide +kernel, by decide +kernel⟩,
    ⟨exampleBank 100 13, [4, 3, 2, 1, 0], [20, 19], example_entriesPass 13 (.inr rfl), example_chainA 13 (.inr rfl),
      by simp only [Bank.walked]; decide +kernel, by decide +kernel⟩⟩

theorem witness_CommitCheckPassesOrFindsTheFirstFault_passes : ∃ (b : Bank) (figs : Figures), checkBank b = .ok figs ∧ b.ranged := by
  obtain ⟨f, e⟩ := figures_of_passes (b := exampleBank 100 13) (by decide +kernel)
  refine ⟨_, f, e, ?_⟩
  unfold Bank.ranged StepSettings.ranged ProbeEntry.ranged ProbeFields.ranged Block.ranged
  refine ⟨by decide +kernel, fun p => ⟨by revert p; decide +kernel, ?_⟩, by decide +kernel⟩
  have h : ∀ q : ProbeNo, ∀ i : Place, (((exampleBank 100 13).probe q).gates[i]).all (fun g =>
      decide (g.start ≤ 3999 ∧ (1 ≤ g.width ∧ g.width ≤ 4000) ∧ 1 ≤ g.threshold ∧ g.threshold ≤ 1023)) = true := by
    decide +kernel
  intro i g hg
  have hi := h p i
  rw [hg] at hi
  simpa [Gate.ranged] using hi

theorem witness_AbandonAndShadowCopy :
    (∀ c : CommitState, ∃ (s : State) (p : Port), s.takesOn p ∧ s.plan.holder = some p ∧ s.plan.commit = c) ∧
    ∀ c : CommitState, ∃ s : State, s.resetLow = false ∧ s.plan.commit = c :=
  ⟨fun c => ⟨{ editing with plan := { editing.plan with commit := c } }, 2,
      takes_of_ready (by cases c <;> decide +kernel), by cases c <;> decide +kernel⟩,
    fun c => ⟨{ live with plan := { live.plan with commit := c } }, by cases c <;> decide +kernel⟩⟩

/-- A commit of P2 pends in the run, both rails WAITING, with two boundaries of the new pitch reached. -/
def swapping : State :=
  { running with
    plan :=
      { running.plan with
        bank1 := { exampleBank 100 13 with settings := { (exampleBank 100 13).settings with pitch := 4 } }
        commit := .pending
        pendingSig := some 7
        committer := some 2 }
    gen := { running.gen with disp := 11, frontier := 11 } }

theorem witness_SwapExchangesTheBanks :
    (∃ s : State, s.swapDue = false) ∧
    (∃ (s : State) (sig : BitVec 32) (p : Port), s.swapDue = true ∧ s.plan.pendingSig = some sig ∧
      s.plan.committer = some p ∧ s.plan.shadowBank.settings.pitch = 4) ∧
    (∃ s : State, ¬ s.boundaryReached) ∧ ∃ s : State, s.boundaryReached := by
  refine ⟨⟨running, by decide +kernel⟩, ⟨swapping, 7, 2, by decide +kernel⟩, ⟨running, ?_⟩,
    ⟨swapping.swapBanks 7 2, ?_⟩⟩ <;> (unfold State.boundaryReached; decide +kernel)

/-- The tests of SET SCALER at their bounds, and a marker field out of range. -/
theorem witness_OdometerRequestsReplaceValues :
    (∃ (s : State) (p : Port), s.takesOn p ∧ s.plan.holder = some p ∧ s.run.state ≠ .idle) ∧
    (∃ (s : State) (p : Port), s.takesOn p ∧ s.plan.holder = some p ∧ s.run.state = .idle) ∧
    (∃ den : BitVec 16, ¬ (1 ≤ den.toNat ∧ den.toNat ≤ 4096)) ∧
    (∃ num den : BitVec 16, 1 ≤ den.toNat ∧ den.toNat ≤ 4096 ∧
      ¬ (1 ≤ num.toNat ∧ num.toNat ≤ 4096 ∧ num.toNat ≤ 8 * den.toNat)) ∧
    (∃ num den : BitVec 16, 1 ≤ den.toNat ∧ den.toNat ≤ 4096 ∧ 1 ≤ num.toNat ∧ num.toNat ≤ 4096 ∧
      num.toNat = 8 * den.toNat) ∧
    ∃ (marker enabled edge action : Byte) (n : Nat),
      firstOutside n
        [decide (marker.toNat ≤ 1), decide (enabled.toNat ≤ 1), decide (edge.toNat ≤ 1), true,
          decide (action.toNat ≤ 1)] :=
  ⟨⟨editingInRun emptyPlan, 2, takes_of_ready (by decide +kernel), by decide +kernel⟩,
    ⟨editing, 2, editing_takes 2, by decide +kernel⟩, ⟨4097, by decide⟩, ⟨9, 1, by decide⟩, ⟨4096, 512, by decide⟩,
    ⟨1, 1, 1, 2, 5, by unfold firstOutside; decide⟩⟩

theorem witness_StartRunBeginsARun :
    (∀ n : BitVec 16, n = 0xFFFF ∨ n = 0xFFFE → ∃ (s : State) (p : Port), s.takesOn p ∧ s.run.state = .idle ∧
      s.run.number = n) ∧
    ∃ (s : State) (p : Port), s.takesOn p ∧ s.run.state ≠ .idle :=
  ⟨fun n h => ⟨{ live with run := { live.run with number := n } }, 0,
      takes_of_ready (by rcases h with rfl | rfl <;> decide +kernel), by rcases h with rfl | rfl <;> decide +kernel⟩,
    ⟨running, 0, running_takes 0, by decide +kernel⟩⟩

/-- The run's last step is issued, both rails WAITING; a commit pends or not. -/
def finishing (pends : Bool) : State :=
  { (if pends then swapping else running) with
    run := { running.run with state := .finishing }
    gen := { running.gen with state := .halted, stepNo := 6 } }

/-- A stop with a LISTENING channel whose shot a snapshot entry has claimed, without a commit and with one pending; a
port in IDLE; a run whose end is due, alone and with a swap, and one whose end is not. -/
theorem witness_RunsEndStoppedOrCompleted :
    (∀ pends : Bool, ∃ (s : State) (p q : Port) (c : Chan) (b : Binding), s.takesOn p ∧ s.run.state ≠ .idle ∧
      s.chans[c].phase = .listening ∧ s.chans[c].binding = some b ∧ (s.hub.dist q).snap = .claimed b.probe b.slot ∧
      (s.plan.commit = .pending ↔ pends = true)) ∧
    (∃ (s : State) (p : Port), s.takesOn p ∧ s.run.state = .idle) ∧
    (∃ s : State, s.completionDue = false) ∧ (∃ s : State, s.completionDue = true ∧ s.swapDue = false) ∧
    ∃ s : State, s.completionDue = true ∧ s.swapDue = true := by
  refine ⟨fun pends => ?_, ⟨live, 0, live_takes 0, by decide +kernel⟩, ⟨running, by decide +kernel⟩,
    ⟨finishing false, by decide +kernel⟩, ⟨finishing true, by decide +kernel⟩⟩
  refine ⟨{ withDist (listening .listening) 3 (fun d => { d with snap := .claimed 0 0 }) with
      plan := if pends then swapping.plan else running.plan }, 0, 3, 0, ⟨.a, 0, 0, 0, some 10, some 1⟩,
    takes_of_ready ?_, ?_⟩ <;> (revert pends; decide +kernel)

/-- P3 holds probe 4. -/
def holding : State := { running with run := { running.run with holds := running.run.holds.set 4 0b1000 } }

/-- A set that another port holds; an empty set on a rail that does not ask for channels, and on one that asks for a group
without the probe. -/
theorem witness_HoldProbeAddsThePort :
    (∃ (s : State) (p : Port) (i : ProbeNo), s.takesOn p ∧ s.run.holds[i] ≠ 0) ∧
    (∃ (s : State) (p : Port) (i : ProbeNo), s.takesOn p ∧ s.run.holds[i] = 0 ∧ (s.seq (railOf i)).state ≠ .requesting) ∧
    (∃ (s : State) (p : Port) (i : ProbeNo), s.takesOn p ∧ s.run.holds[i] = 0 ∧
      (s.seq (railOf i)).state = .requesting ∧ ∀ b ∈ (s.seq (railOf i)).group, (s.bank.block b).probe ≠ i) ∧
    ∃ (s : State) (p : Port) (probe : Byte), s.takesOn p ∧ probe.toNat = 24 :=
  ⟨⟨holding, 0, 4, takes_of_ready (by decide +kernel), by decide +kernel⟩,
    ⟨running, 0, 23, running_takes 0, by decide +kernel⟩,
    ⟨requesting [3, 4], 0, 2, takes_of_ready (by decide +kernel), by decide +kernel⟩,
    ⟨running, 0, 24, running_takes 0, by decide⟩⟩

/-- A waiting group of two that names the probe, and one of one. -/
theorem witness_HeldProbesLeaveWaitingGroups :
    ∀ pair : Bool, ∃ (s : State) (p : Port) (i : ProbeNo), s.takesOn p ∧ s.run.holds[i] = 0 ∧
      (s.seq (railOf i)).state = .requesting ∧ (∃ b ∈ (s.seq (railOf i)).group, (s.bank.block b).probe = i) ∧
      ((s.seq (railOf i)).group.filter (fun b => (s.bank.block b).probe ≠ i) = [] ↔ pair = false) :=
  fun pair => ⟨requesting (if pair then [3, 4] else [3]), 0, 3, takes_of_ready (by revert pair; decide +kernel),
    by revert pair; decide +kernel⟩

theorem witness_ReleaseProbeRemovesThePort :
    (∃ (s : State) (p : Port) (i : ProbeNo), s.takesOn p ∧ portIn p s.run.holds[i] = true) ∧
    (∃ (s : State) (p : Port) (i : ProbeNo), s.takesOn p ∧ portIn p s.run.holds[i] = false) ∧
    ∃ (s : State) (p : Port) (probe : Byte), s.takesOn p ∧ probe.toNat = 24 :=
  ⟨⟨holding, 3, 4, takes_of_ready (by decide +kernel), by decide +kernel⟩,
    ⟨holding, 2, 4, takes_of_ready (by decide +kernel), by decide +kernel⟩, ⟨running, 0, 24, running_takes 0, by decide⟩⟩

/-! ### Invariants: a state that a run reaches, with a command to take -/

/-- The live part with a speed window's end to take. -/
def ticking : State := { live with pending := [.speedWindowEnd] }

/-- Its step answers a next state. -/
theorem ticking_steps : ∃ t, step ticking = .next t := ⟨_, rfl⟩

/-- The empty plan lies within its ranges. -/
theorem emptyPlan_ranged : emptyPlan.ranged := by
  unfold Bank.ranged StepSettings.ranged ProbeEntry.ranged ProbeFields.ranged Block.ranged
  refine ⟨by decide +kernel, fun p => ⟨by revert p; decide +kernel, ?_⟩, by decide +kernel⟩
  intro i g hg
  have h : ∀ (p : ProbeNo) (i : Place), (emptyPlan.probe p).gates[i] = none := by decide +kernel
  rw [h p i] at hg; cases hg

theorem witness_StepsKeepBanksInRange : ∃ s t : State, s.banksRanged ∧ step s = .next t :=
  ⟨ticking, _, ⟨emptyPlan_ranged, emptyPlan_ranged⟩, rfl⟩

/-- A pending commit among them. -/
theorem witness_StepsKeepTheActiveBankChecked :
    ∃ s t : State, s.activeChecked ∧ s.plan.commit = .pending ∧ step s = .next t := by
  obtain ⟨f, e⟩ := figures_of_passes (b := emptyPlan) (by decide +kernel)
  exact ⟨{ ticking with plan := { ticking.plan with commit := .pending, pendingSig := some f.signature } }, _,
    ⟨rfl, ⟨f, e⟩, fun _ => ⟨f, e, rfl⟩⟩, rfl, rfl⟩

theorem witness_StepsKeepTheTrackInRange :
    (∃ s t : State, s.odoRanged ∧ step s = .next t) ∧ ∃ s t : State, s.frontierLeads ∧ step s = .next t :=
  ⟨⟨ticking, _, by unfold State.odoRanged MarkerUnit.ranged; decide +kernel, rfl⟩,
    ⟨ticking, _, by unfold State.frontierLeads; decide +kernel, rfl⟩⟩

/-- The run of the worked example with a speed window's end to take. -/
def runningOn : State := { running with pending := [.speedWindowEnd] }

/-- Run, generator and rails agree in it. -/
theorem runningOn_agrees : runningOn.runAgrees :=
  ⟨by decide +kernel, by decide +kernel, by decide +kernel, fun r => by cases r <;> decide +kernel,
    fun r => by cases r <;> decide +kernel⟩

theorem witness_StepsKeepTheRunInAgreement : ∃ s t : State, s.runAgrees ∧ step s = .next t :=
  ⟨runningOn, _, runningOn_agrees, rfl⟩

theorem witness_StepsKeepSprayAndCoupling :
    (∃ s t : State, s.runAgrees ∧ s.sprayFollows ∧ step s = .next t) ∧
    ∃ s t : State, s.banksRanged ∧ s.couplingRanged ∧ step s = .next t :=
  ⟨⟨runningOn, _, runningOn_agrees, by unfold State.sprayFollows; decide +kernel, rfl⟩,
    ⟨ticking, _, ⟨emptyPlan_ranged, emptyPlan_ranged⟩,
      by unfold State.couplingRanged ProbeCoupling.ranged; decide +kernel, rfl⟩⟩

/-- A full pool with records pending and the last page attached. -/
theorem witness_StepsKeepThePoolSound : ∃ s t : State, s.poolSound ∧ 47 ∈ s.hub.pool.usedPages ∧ step s = .next t :=
  ⟨{ withPool live
      { (filled 1024).putSlot 5 { queuedSlot with page := some { no := 47, samples := [] } } with
        waiting := List.replicate 8 notice } with pending := [.speedWindowEnd] }, _,
    by unfold State.poolSound; decide +kernel, by decide +kernel, rfl⟩

/-- A port that holds a TAKE among them. -/
theorem witness_StepsKeepThePortsSound : ∃ s t : State, s.portsSound ∧ step s = .next t :=
  ⟨{ held with pending := [.heldTakeExpiry 1] }, _, by unfold State.portsSound PortUnit.sound; decide +kernel, rfl⟩

/-- A record queued on P1. -/
def queued : State :=
  { withDist (withPool live { Pool.reset with slots := [(0, queuedSlot)] }) 1
      (fun d => { d with queue := [.ref 0], attention := true }) with
    pending := [.speedWindowEnd] }

/-- References and queues agree in it. -/
theorem queued_agrees : queued.refsAgree := by
  have h1 : ∀ q : Port, (queued.hub.dist q).queue = if q = 1 then [.ref 0] else [] := by decide +kernel
  have h2 : ∀ n, queued.hub.pool.slot n = if 0 = n then some queuedSlot else none := fun _ => rfl
  refine ⟨by decide +kernel, fun n => ?_, fun q n => ?_, ?_⟩
  · have h3 : ∀ m, queued.hub.holders (m + 1) = 0 := by
      intro m; simp [Hub.holders, allPorts, h1]
    rw [Hub.slotAgrees, h2]
    cases n with
    | zero => exact ⟨by decide +kernel, by decide, 1, notice, rfl⟩
    | succ m => exact h3 m
  · rw [h1]; split
    · exact List.count_le_length.trans (by decide)
    · exact Nat.zero_le _
  · have h : ∀ c : Chan, queued.chans[c].phase ≠ .listening := by decide +kernel
    exact ⟨fun c hc => absurd hc (h c), fun c _ hc => absurd hc (h c)⟩

theorem witness_StepsKeepReferencesAndAttention :
    ∃ s t : State, s.refsAgree ∧ s.attentionFollows ∧ step s = .next t :=
  ⟨queued, _, queued_agrees, by unfold State.attentionFollows; decide +kernel, rfl⟩

end Sys2Proof.Tests
end

section
/-! SUPPORT. What every operation does to the Plan Store: the operations that leave it as it is, and the moves that one
command can make on it. -/

namespace Sys2Proof.Machine

/-! ## Operations that leave the Plan Store as it is -/

@[simp] theorem State.plan_handRecord (s : State) (b : Body) : (s.handRecord b).plan = s.plan := rfl

@[simp] theorem State.plan_refreshSpray (s : State) : s.refreshSpray.plan = s.plan := rfl

@[simp] theorem State.plan_enterIdle (s : State) : s.enterIdle.plan = s.plan := rfl

@[simp] theorem State.plan_turnOff (s : State) : s.turnOff.plan = s.plan := rfl

@[simp] theorem State.plan_endPool (s : State) : s.endPool.plan = s.plan := (sameOutside_endPool s).plan

@[simp] theorem State.plan_closeSkip (s : State) (r : Rail) : (s.closeSkip r).plan = s.plan :=
  (sameOutside_closeSkip s r).plan

@[simp] theorem State.plan_stepArrives (s : State) (r : Rail) (st : Step) : (s.stepArrives r st).plan = s.plan :=
  (sameOutside_stepArrives s r st).plan

@[simp] theorem State.plan_walkOn (s : State) (r : Rail) : (s.walkOn r).plan = s.plan := (sameOutside_walkOn s r).plan

@[simp] theorem State.plan_pass (s : State) : s.pass.plan = s.plan := (sameOutside_pass s).plan

@[simp] theorem State.plan_complete (s : State) : s.complete.plan = s.plan := by simp [State.complete]

@[simp] theorem State.plan_completeIfDue (s : State) : s.completeIfDue.plan = s.plan := by
  unfold State.completeIfDue
  split
  · exact s.plan_complete
  · rfl

@[simp] theorem State.plan_haltAtLimit (s : State) : s.haltAtLimit.plan = s.plan := by
  unfold State.haltAtLimit
  split <;> rfl

@[simp] theorem State.plan_issue (s : State) : s.issue.plan = s.plan := by
  unfold State.issue
  dsimp only
  split <;> simp

@[simp] theorem State.plan_advanceBoundary (s : State) : s.advanceBoundary.plan = s.plan := rfl

@[simp] theorem State.plan_clearFired (s : State) : s.clearFired.plan = s.plan := rfl

@[simp] theorem State.plan_newPitch (s : State) : s.newPitch.plan = s.plan := by
  unfold State.newPitch
  split <;> rfl

@[simp] theorem State.plan_issueReached (n : Nat) (s : State) : (State.issueReached n s).plan = s.plan := by
  induction n generalizing s with
  | zero => rfl
  | succ n ih =>
    unfold State.issueReached
    split
    · simp [ih]
    · rfl

@[simp] theorem State.plan_moveDisp (s : State) (up : Bool) : (s.moveDisp up).plan = s.plan := by
  unfold State.moveDisp
  exact (apply_ite State.plan _ _ _).trans (ite_self _)

@[simp] theorem State.plan_restartStepTimer (s : State) : s.restartStepTimer.plan = s.plan := by
  unfold State.restartStepTimer
  split <;> rfl

@[simp] theorem State.plan_encoderFault (s : State) : s.encoderFault.plan = s.plan := rfl

@[simp] theorem State.plan_acceptMarker (s : State) (m : Marker) : (s.acceptMarker m).plan = s.plan := rfl

@[simp] theorem State.plan_markerChange (s : State) (m : Marker) (level : Bool) :
    (s.markerChange m level).plan = s.plan := by
  unfold State.markerChange
  dsimp only
  split <;> simp

@[simp] theorem State.plan_couple (s : State) (p : ProbeNo) (hit : Option Bool) (n : StepNo) :
    (s.couple p hit n).plan = s.plan := by
  unfold State.couple
  split
  · rfl
  · exact (apply_ite State.plan _ _ _).trans (ite_self _)

@[simp] theorem State.plan_completeShot (s : State) (b : Binding) (e : Evaluator) :
    (s.completeShot b e).plan = s.plan := by
  unfold State.completeShot
  split
  · rfl
  · split <;> try rfl
    dsimp only
    split <;> simp

@[simp] theorem State.plan_releaseRail (s : State) (r : Rail) : (s.releaseRail r).plan = s.plan := rfl

@[simp] theorem State.plan_movePointer (s : State) (r : Rail) : (s.movePointer r).plan = s.plan :=
  (sameOutside_movePointer s r).plan

@[simp] theorem State.plan_clearGroup (s : State) (r : Rail) : (s.clearGroup r).plan = s.plan :=
  (sameOutside_clearGroup s r).plan

@[simp] theorem State.plan_abortChan (s : State) (c : Chan) : (s.abortChan c).plan = s.plan := by
  unfold State.abortChan
  split <;> rfl

@[simp] theorem State.plan_abortGroups (s : State) : s.abortGroups.plan = s.plan := by
  simp [State.abortGroups, allChans]

@[simp] theorem State.plan_stopUnits (s : State) : s.stopUnits.plan = s.plan := rfl

@[simp] theorem State.plan_stop (s : State) : s.stop.plan = s.plan := by simp [State.stop]

@[simp] theorem State.plan_beginRun (s : State) (limit : BitVec 24) (label : BitVec 16) :
    (s.beginRun limit label).plan = s.plan := rfl

@[simp] theorem State.plan_setHold (s : State) (i : ProbeNo) (x : PortSet) : (s.setHold i x).plan = s.plan := rfl

@[simp] theorem State.plan_unhold (s : State) (p : Port) (i : ProbeNo) : (s.unhold p i).plan = s.plan := by
  unfold State.unhold
  split
  · dsimp only
    split <;> rfl
  · rfl

@[simp] theorem State.plan_dropHolds (s : State) (p : Port) : (s.dropHolds p).plan = s.plan := by
  have fold : ∀ (l : List ProbeNo) (t : State), (l.foldl (fun t i => t.unhold p i) t).plan = t.plan := by
    intro l
    induction l with
    | nil => intro t; rfl
    | cons i l ih => intro t; simp [ih]
  exact fold _ s

@[simp] theorem State.plan_sent (s : State) (p : Port) : (s.sent p).plan = s.plan := by
  unfold State.sent
  split <;> try rfl
  split
  · rfl
  · simp

@[simp] theorem State.plan_heldExpiry (s : State) (p : Port) : (s.heldExpiry p).plan = s.plan := by
  unfold State.heldExpiry
  split <;> rfl

@[simp] theorem State.plan_presentRises (s : State) (p : Port) : (s.presentRises p).plan = s.plan := by
  unfold State.presentRises
  split <;> rfl

@[simp] theorem State.plan_gapTimeout (s : State) (p : Port) : (s.gapTimeout p).plan = s.plan := by
  unfold State.gapTimeout
  split <;> rfl

/-! ## The moves of the Plan Store -/

/-- What an operation can do to the Plan Store in one move: the edit right and its timer change; a shadow copy starts
(R40, R41); an item of the shadow bank is replaced by values in range (R30); a commit that passes the check becomes
pending (R36); the swap (R38); the copy completes (R40); hardware reset (R1). -/
inductive PlanStore.Move : PlanStore → PlanStore → Prop
  | right (x : PlanStore) (holder : Option Port) (idle : Option Nat) :
    Move x { x with holder := holder, idleTimer := idle }
  | startCopy (x : PlanStore) (sig : Option (BitVec 32)) (committer : Option Port) :
    Move x { x with commit := .copying, pendingSig := sig, committer := committer }
  | write (x : PlanStore) (b : Bank) (free : x.commit = .none) (kept : x.shadowBank.ranged → b.ranged) :
    Move x (x.setShadow b)
  | pend (x : PlanStore) (figs : Figures) (p : Port) (passed : checkBank x.shadowBank = .ok figs) :
    Move x (x.pend figs.signature p)
  | swap (x : PlanStore) (sig : BitVec 32) (due : x.commit = .pending) (held : x.pendingSig = some sig) :
    Move x (x.swapped sig)
  | copied (x : PlanStore) : Move x { x.setShadow x.activeBank with commit := .none }
  | reset (x : PlanStore) : Move x PlanStore.reset

/-- The Plan Store of `t` comes from that of `s` by moves. -/
def State.PlanMoves (s t : State) : Prop := Relation.ReflTransGen PlanStore.Move s.plan t.plan

theorem State.PlanMoves.same {s t : State} (h : t.plan = s.plan) : s.PlanMoves t := by
  unfold State.PlanMoves
  rw [h]

theorem State.PlanMoves.refl (s : State) : s.PlanMoves s := .same rfl

theorem State.PlanMoves.one {s t : State} (h : PlanStore.Move s.plan t.plan) : s.PlanMoves t := .single h

theorem State.PlanMoves.trans {s t u : State} (h : s.PlanMoves t) (k : t.PlanMoves u) : s.PlanMoves u :=
  Relation.ReflTransGen.trans h k

/-- A following operation that leaves the Plan Store as it is adds no move. -/
theorem State.PlanMoves.thenSame {s t u : State} (h : s.PlanMoves t) (k : u.plan = t.plan) : s.PlanMoves u :=
  h.trans (.same k)

/-- Moves from a state with the Plan Store of `s` are moves from `s`. -/
theorem State.PlanMoves.ofSame {s t u : State} (k : t.plan = s.plan) (h : t.PlanMoves u) : s.PlanMoves u :=
  (State.PlanMoves.same k).trans h

/-! ## The swap and what leads to it -/

theorem State.planMoves_swap {s : State} (due : s.plan.commit = .pending) : s.PlanMoves s.swap := by
  unfold State.swap
  split
  · next sig p hsig _ =>
    refine .one ?_
    have e : (s.swapBanks sig p).plan = s.plan.swapped sig := by simp [State.swapBanks]
    rw [State.plan_issueReached, e]
    exact .swap _ sig due hsig
  · exact .refl s

/-- A swap is due while a commit is PENDING only (R37). -/
theorem State.commit_of_swapDue {s : State} (h : s.swapDue = true) : s.plan.commit = .pending := by
  simp only [State.swapDue, Bool.and_eq_true, decide_eq_true_eq] at h
  exact h.1.1

theorem State.planMoves_swapIfDue (s : State) : s.PlanMoves s.swapIfDue := by
  unfold State.swapIfDue
  split
  · next h => exact State.planMoves_swap (State.commit_of_swapDue h)
  · exact .refl s

theorem State.planMoves_afterCycles (s : State) : s.PlanMoves s.afterCycles := by
  unfold State.afterCycles
  split
  · next h =>
    have hp := State.commit_of_swapDue (Bool.and_eq_true_iff.1 h).2
    dsimp only
    split
    · refine State.PlanMoves.thenSame ?_ (State.plan_completeIfDue _)
      exact State.PlanMoves.ofSame (t := { s with freeCount := s.freeCount + 1 }) rfl (State.planMoves_swap hp)
    · exact State.PlanMoves.ofSame (by simp) (State.planMoves_swapIfDue _)
  · exact State.PlanMoves.ofSame (State.plan_completeIfDue s) (State.planMoves_swapIfDue _)

theorem State.planMoves_genTick (s : State) (plus : Bool) : s.PlanMoves (s.genTick plus) := by
  unfold State.genTick
  split
  · exact .refl s
  · dsimp only
    split
    · split
      · exact State.PlanMoves.ofSame (by simp) (State.planMoves_afterCycles _)
      · exact .same (by simp)
    · exact .same (by simp)

theorem State.planMoves_ticks (plus : Bool) (n : Nat) (s : State) : s.PlanMoves (State.ticks plus n s) := by
  induction n generalizing s with
  | zero => exact .refl s
  | succ n ih =>
    refine State.PlanMoves.trans ?_ (ih _)
    exact State.PlanMoves.ofSame (by rfl) (State.planMoves_genTick _ plus)

theorem State.planMoves_count (s : State) (plus : Bool) : s.PlanMoves (s.count plus) := by
  let u : State := { s with odo := { s.odo with rem := (s.odo.scale plus).2 } }
  exact State.PlanMoves.trans (t := u) (.same rfl) ((State.planMoves_ticks plus _ u).thenSame rfl)

theorem State.planMoves_transition (s : State) (a b : Bool) : s.PlanMoves (s.transition a b) := by
  unfold State.transition
  dsimp only
  split
  · exact .same rfl
  · refine State.PlanMoves.thenSame ?_ (State.plan_endPool _)
    exact State.PlanMoves.ofSame (by rfl) (State.planMoves_count _ true)
  · refine State.PlanMoves.thenSame ?_ (State.plan_endPool _)
    exact State.PlanMoves.ofSame (by rfl) (State.planMoves_count _ false)
  · exact .same (by simp)

theorem State.planMoves_timerExpiry (s : State) : s.PlanMoves s.timerExpiry := by
  unfold State.timerExpiry
  split
  · exact (State.PlanMoves.ofSame (State.plan_issue s) (State.planMoves_afterCycles _)).thenSame (by simp)
  · exact .refl s

theorem State.planMoves_settleEnd (s : State) (c : Chan) : s.PlanMoves (s.settleEnd c) := by
  unfold State.settleEnd
  split
  · split
    · exact .same rfl
    · exact State.PlanMoves.ofSame (by simp) (State.planMoves_afterCycles _)
  · exact .refl s

theorem State.planMoves_windowEnd (s : State) (c : Chan) (first : Sample) (rest : List Sample) :
    s.PlanMoves (s.windowEnd c first rest) := by
  unfold State.windowEnd
  split
  · dsimp only
    split
    · exact State.PlanMoves.ofSame (by simp) (State.planMoves_settleEnd _ c)
    · exact .same (by simp)
  · exact .refl s

theorem State.planMoves_reform (s : State) (i : ProbeNo) : s.PlanMoves (s.reform i) := by
  unfold State.reform
  dsimp only
  split
  · split
    · exact State.PlanMoves.ofSame (by simp) (State.planMoves_afterCycles _)
    · exact State.PlanMoves.ofSame (by simp) (State.planMoves_afterCycles _)
  · exact .refl s

/-! ## The edit right, the writes and the commit -/

theorem State.planMoves_restartIdle (s : State) : s.PlanMoves s.restartIdle := .one (.right s.plan s.plan.holder _)

/-- The loss of the edit right is a move of the right, in NONE with the start of a copy (R26). -/
theorem PlanStore.moves_loseRight (x : PlanStore) : Relation.ReflTransGen PlanStore.Move x x.loseRight := by
  have lose := PlanStore.Move.right x none none
  unfold PlanStore.loseRight
  split
  · exact (Relation.ReflTransGen.single lose).tail (.startCopy _ x.pendingSig x.committer)
  · exact .single lose
  · exact .single lose

theorem State.planMoves_idleExpiry (s : State) : s.PlanMoves s.idleExpiry := by
  unfold State.idleExpiry
  split
  · exact s.plan.moves_loseRight
  · exact .refl s

theorem State.planMoves_dropRight (s : State) (p : Port) : s.PlanMoves (s.dropRight p) := by
  unfold State.dropRight
  split
  · exact s.plan.moves_loseRight
  · exact .refl s

theorem State.planMoves_presentFalls (s : State) (p : Port) : s.PlanMoves (s.presentFalls p) := by
  unfold State.presentFalls
  split
  · exact .refl s
  · exact (State.PlanMoves.ofSame (by simp) (State.planMoves_dropRight _ p)).thenSame (State.plan_endPool _)

theorem State.planMoves_claim (s : State) (p : Port) : s.PlanMoves (s.claim p).1 := by
  unfold State.claim
  split
  · exact .one (.right s.plan (some p) _)
  · split
    · exact s.planMoves_restartIdle
    · exact .refl s

theorem State.planMoves_releaseRight (s : State) (p : Port) : s.PlanMoves (s.releaseRight p).1 := by
  unfold State.releaseRight
  split
  · exact s.plan.moves_loseRight
  · exact .refl s

theorem State.planMoves_withRight {s : State} {p : Port} {body : State → State × Reply}
    (h : s.PlanMoves (body s).1) : s.PlanMoves (s.withRight p body).1 := by
  unfold State.withRight
  split
  · dsimp only
    split
    · exact h.trans (State.planMoves_restartIdle _)
    · exact h
  · exact .refl s

theorem State.planMoves_writeShadow (s : State) {checks : List Bool} {edit : Bank → Bank}
    (h : firstBad checks = none → ∀ b : Bank, b.ranged → (edit b).ranged) :
    s.PlanMoves (s.writeShadow checks edit).1 := by
  unfold State.writeShadow
  split
  · next hc =>
    split
    · exact .refl s
    · next hn => exact .one (.write _ _ hc (h hn _))
  · exact .refl s

theorem State.planMoves_commitBy (s : State) (p : Port) : s.PlanMoves (s.commitBy p).1 := by
  unfold State.commitBy
  split
  · split
    · exact .refl s
    · next figs hf =>
      have hpass : checkBank s.plan.shadowBank = .ok figs := by
        unfold State.check commitCheck at hf
        split at hf
        · cases hf
        · exact hf
      refine State.PlanMoves.thenSame ?_ (State.plan_endPool _)
      exact State.PlanMoves.trans (t := { s with plan := s.plan.pend figs.signature p })
        (.one (.pend s.plan figs p hpass)) (State.planMoves_afterCycles _)
  · exact .refl s

theorem State.planMoves_abandonBy (s : State) : s.PlanMoves s.abandonBy.1 := by
  unfold State.abandonBy
  split
  · exact .one (.startCopy s.plan s.plan.pendingSig s.plan.committer)
  · exact .one (.startCopy s.plan none none)
  · exact .refl s

theorem PlanStore.moves_copyDone (x : PlanStore) : Relation.ReflTransGen PlanStore.Move x x.copyDone := by
  unfold PlanStore.copyDone
  split
  · exact .single (.copied x)
  · exact .refl
  · exact .refl

end Sys2Proof.Machine
end

section
/-! SUPPORT. Every command moves the Plan Store by its moves: the fields that a write carries are in range, and so is the
bank it leaves; the requests and the events, one by one. -/

namespace Sys2Proof.Machine

/-! ## Writes in range -/

/-- No field is named when every check is passed (R175). -/
theorem firstBad_eq_none_iff (checks : List Bool) : firstBad checks = none ↔ ∀ x ∈ checks, x = true := by
  have main : ∀ (l : List Bool) (i : Nat), firstBadFrom i l = none ↔ ∀ x ∈ l, x = true := by
    intro l
    induction l with
    | nil => simp [firstBadFrom]
    | cons ok rest ih => intro i; cases ok <;> simp [firstBadFrom, ih]
  exact main checks 1

@[simp] theorem inRange_eq_true (lo hi x : Nat) : inRange lo hi x = true ↔ lo ≤ x ∧ x ≤ hi := by simp [inRange]

theorem StepSettings.ranged_settingsOf {source : Byte} {pitch : BitVec 16} {period : BitVec 32}
    {priority headA headB : Byte} (h : firstBad (settingsChecks source pitch period priority headA headB) = none) :
    (settingsOf source pitch period priority headA headB).ranged := by
  have ok := (firstBad_eq_none_iff _).1 h
  simp only [settingsChecks, List.forall_mem_cons, inRange_eq_true] at ok
  obtain ⟨-, ⟨pitchLo, pitchHi⟩, ⟨periodLo, periodHi⟩, -⟩ := ok
  exact ⟨pitchLo, pitchHi, periodLo, periodHi⟩

theorem ProbeFields.ranged_probeFieldsOf {probe level : Byte} {pulseWidth : BitVec 16} {gain : Byte}
    {window settle : BitVec 16} {lossRun recoveryRun : Byte}
    (h : firstBad (probeChecks probe level pulseWidth gain window settle lossRun recoveryRun) = none) :
    (probeFieldsOf level pulseWidth gain window settle lossRun recoveryRun).ranged := by
  have ok := (firstBad_eq_none_iff _).1 h
  simp only [probeChecks, List.forall_mem_cons, inRange_eq_true] at ok
  obtain ⟨-, level, pulse, ⟨-, gain⟩, window, ⟨-, settle⟩, loss, recovery, -⟩ := ok
  exact ⟨level, pulse, gain, window, settle, loss, recovery⟩

theorem Gate.ranged_gateOf {probe place occupied kind origin : Byte} {start width threshold : BitVec 16}
    (h : firstBad (gateChecks probe place occupied kind origin start width threshold) = none) {g : Gate}
    (hg : gateOf occupied kind origin start width threshold = some g) : g.ranged := by
  have ok := (firstBad_eq_none_iff _).1 h
  unfold gateOf at hg
  split at hg
  · cases hg
  · next occ =>
    cases hg
    simp only [gateChecks, occ, if_false, List.cons_append, List.nil_append, List.forall_mem_cons, inRange_eq_true]
      at ok
    obtain ⟨-, -, -, -, -, ⟨-, start⟩, width, threshold, -⟩ := ok
    exact ⟨start, width, threshold⟩

theorem Block.ranged_blockOf {block inUse probe decimation phase join report interval lengthCode next : Byte}
    (h : firstBad (blockChecks block inUse probe decimation phase join report interval lengthCode next) = none) :
    (blockOf inUse probe decimation phase join report interval lengthCode next).ranged := by
  have ok := (firstBad_eq_none_iff _).1 h
  simp only [blockChecks, List.forall_mem_cons, inRange_eq_true] at ok
  obtain ⟨-, -, -, decimation, ⟨-, phase⟩, -, -, ⟨-, interval⟩, -⟩ := ok
  exact ⟨decimation, phase, interval⟩

theorem Bank.ranged_withSettings {b : Bank} (h : b.ranged) {x : StepSettings} (hx : x.ranged) :
    Bank.ranged { b with settings := x } := ⟨hx, h.2.1, h.2.2⟩

/-- A bank in range with a probe entry in range put in is in range. -/
theorem Bank.ranged_setProbe {b : Bank} (h : b.ranged) (i : ProbeNo) {e : ProbeEntry} (he : e.ranged) :
    Bank.ranged { b with probes := b.probes.set i e } := by
  obtain ⟨settings, probes, blocks⟩ := h
  refine ⟨settings, fun p => ?_, blocks⟩
  simp only [Bank.probe, Fin.getElem_fin, Vector.getElem_set]
  split
  · exact he
  · exact probes p

theorem Bank.ranged_setFields {b : Bank} (h : b.ranged) (i : ProbeNo) {f : ProbeFields} (hf : f.ranged) :
    (b.setFields i f).ranged := Bank.ranged_setProbe h i ⟨hf, (h.2.1 i).2⟩

theorem Bank.ranged_setGate {b : Bank} (h : b.ranged) (i : ProbeNo) (place : Place) {g : Option Gate}
    (hg : ∀ x, g = some x → x.ranged) : (b.setGate i place g).ranged := by
  refine Bank.ranged_setProbe h i ⟨(h.2.1 i).1, fun j x hx => ?_⟩
  simp only [Fin.getElem_fin, Vector.getElem_set] at hx
  split at hx
  · exact hg x hx
  · exact (h.2.1 i).2 j x hx

theorem Bank.ranged_setBlock {b : Bank} (h : b.ranged) (i : BlockIx) {x : Block} (hx : x.ranged) :
    (b.setBlock i x).ranged := by
  obtain ⟨settings, probes, blocks⟩ := h
  refine ⟨settings, probes, fun j => ?_⟩
  simp only [Bank.setBlock, Bank.block, Fin.getElem_fin, Vector.getElem_set]
  split
  · exact hx
  · exact blocks j

/-! ## Requests -/

/-- A request moves the Plan Store as its rule does (R166). -/
theorem State.planMoves_receive (s : State) (p : Port) (tag kind : Byte) {act : State → State}
    (h : ∀ t : State, t.PlanMoves (act t)) : s.PlanMoves (s.receive p tag kind act) := by
  unfold State.receive
  split
  · exact .refl s
  · exact .same rfl
  · exact State.PlanMoves.ofSame (by rfl) (h _)
  · exact State.PlanMoves.ofSame (by rfl) (h _)

theorem State.planMoves_request (s : State) (p : Port) (tag kind : Byte) {serve : State → State × Reply}
    (h : ∀ t : State, t.PlanMoves (serve t).1) : s.PlanMoves (s.request p tag kind serve) :=
  s.planMoves_receive p tag kind fun t => (h t).thenSame rfl

/-- A request whose rule leaves the Plan Store as it is does so too. -/
theorem State.planMoves_requestSame (s : State) (p : Port) (tag kind : Byte) {serve : State → State × Reply}
    (h : ∀ t : State, (serve t).1.plan = t.plan) : s.PlanMoves (s.request p tag kind serve) :=
  s.planMoves_request p tag kind fun t => .same (h t)

/-- What holds of a state after every request holds of it after a complete frame, which acts as the request of its kind
or is unknown (R165, R166). -/
theorem State.handleFrame_cases {P : State → Prop} {s : State} {p : Port} {tag : Byte}
    (identify : P (s.doIdentify p tag))
    (readStatus : P (s.doReadStatus p tag))
    (configurePort : ∀ hold threshold, P (s.doConfigurePort p tag hold threshold))
    (subscribe : ∀ entry matchVal mask enabled, P (s.doSubscribe p tag entry matchVal mask enabled))
    (general : ∀ flag, P (s.doGeneral p tag flag))
    (take : ∀ count, P (s.doTake p tag count))
    (snapshot : ∀ probe, P (s.doSnapshot p tag probe))
    (cancelSnapshot : P (s.doCancelSnapshot p tag))
    (readPlanEntry : ∀ role item index, P (s.doReadPlanEntry p tag role item index))
    (claimEdit : P (s.doClaimEdit p tag))
    (startRun : ∀ limit label, P (s.doStartRun p tag limit label))
    (stopRun : P (s.doStopRun p tag))
    (holdProbe : ∀ probe, P (s.doHoldProbe p tag probe))
    (releaseProbe : ∀ probe, P (s.doReleaseProbe p tag probe))
    (releaseEdit : P (s.doReleaseEdit p tag))
    (writeStepSettings : ∀ source pitch period priority headA headB,
      P (s.doWriteStepSettings p tag source pitch period priority headA headB))
    (writeProbe : ∀ probe level pulseWidth gain window settle lossRun recoveryRun,
      P (s.doWriteProbe p tag probe level pulseWidth gain window settle lossRun recoveryRun))
    (writeGate : ∀ probe place occupied kind origin start width threshold,
      P (s.doWriteGate p tag probe place occupied kind origin start width threshold))
    (writeBlock : ∀ block inUse probe decimation phase join report interval lengthCode next,
      P (s.doWriteBlock p tag block inUse probe decimation phase join report interval lengthCode next))
    (commit : P (s.doCommit p tag))
    (abandon : P (s.doAbandon p tag))
    (setScaler : ∀ num den, P (s.doSetScaler p tag num den))
    (setPosition : ∀ position, P (s.doSetPosition p tag position))
    (setMarker : ∀ marker enabled edge lockout action load,
      P (s.doSetMarker p tag marker enabled edge lockout action load))
    (kind : Byte) (unknown : P (s.doUnknown p tag kind)) (payload : List Byte) :
    P (s.handleFrame p tag kind payload) := by
  unfold State.handleFrame
  generalize kind.toNat = k
  by_cases listed : k < 26
  · interval_cases k
    · exact unknown
    · rcases payload with _ | ⟨_, _⟩
      all_goals first | exact unknown | exact identify
    · rcases payload with _ | ⟨_, _⟩
      all_goals first | exact unknown | exact readStatus
    · rcases payload with _ | ⟨_, _ | ⟨_, _ | ⟨_, _ | ⟨_, _ | ⟨_, _⟩⟩⟩⟩⟩
      all_goals first | exact unknown | exact configurePort _ _
    · rcases payload with _ | ⟨_, _ | ⟨_, _ | ⟨_, _ | ⟨_, _ | ⟨_, _⟩⟩⟩⟩⟩
      all_goals first | exact unknown | exact subscribe _ _ _ _
    · rcases payload with _ | ⟨_, _ | ⟨_, _⟩⟩
      all_goals first | exact unknown | exact general _
    · rcases payload with _ | ⟨_, _ | ⟨_, _⟩⟩
      all_goals first | exact unknown | exact take _
    · rcases payload with _ | ⟨_, _ | ⟨_, _⟩⟩
      all_goals first | exact unknown | exact snapshot _
    · rcases payload with _ | ⟨_, _⟩
      all_goals first | exact unknown | exact cancelSnapshot
    · rcases payload with _ | ⟨_, _ | ⟨_, _ | ⟨_, _ | ⟨_, _⟩⟩⟩⟩
      all_goals first | exact unknown | exact readPlanEntry _ _ _
    · rcases payload with _ | ⟨_, _⟩
      all_goals first | exact unknown | exact claimEdit
    · rcases payload with _ | ⟨_, _ | ⟨_, _ | ⟨_, _ | ⟨_, _ | ⟨_, _ | ⟨_, _⟩⟩⟩⟩⟩⟩
      all_goals first | exact unknown | exact startRun _ _
    · rcases payload with _ | ⟨_, _⟩
      all_goals first | exact unknown | exact stopRun
    · rcases payload with _ | ⟨_, _ | ⟨_, _⟩⟩
      all_goals first | exact unknown | exact holdProbe _
    · rcases payload with _ | ⟨_, _ | ⟨_, _⟩⟩
      all_goals first | exact unknown | exact releaseProbe _
    · exact unknown
    · rcases payload with _ | ⟨_, _⟩
      all_goals first | exact unknown | exact releaseEdit
    · rcases payload with _ | ⟨_, _ | ⟨_, _ | ⟨_, _ | ⟨_, _ | ⟨_, _ | ⟨_, _ | ⟨_, _ | ⟨_, _ | ⟨_, _ | ⟨_, _ | ⟨_, _⟩⟩⟩⟩⟩⟩⟩⟩⟩⟩⟩
      all_goals first | exact unknown | exact writeStepSettings _ _ _ _ _ _
    · rcases payload with _ | ⟨_, _ | ⟨_, _ | ⟨_, _ | ⟨_, _ | ⟨_, _ | ⟨_, _ | ⟨_, _ | ⟨_, _ | ⟨_, _ | ⟨_, _ | ⟨_, _ | ⟨_, _⟩⟩⟩⟩⟩⟩⟩⟩⟩⟩⟩⟩
      all_goals first | exact unknown | exact writeProbe _ _ _ _ _ _ _ _
    · rcases payload with _ | ⟨_, _ | ⟨_, _ | ⟨_, _ | ⟨_, _ | ⟨_, _ | ⟨_, _ | ⟨_, _ | ⟨_, _ | ⟨_, _ | ⟨_, _ | ⟨_, _ | ⟨_, _⟩⟩⟩⟩⟩⟩⟩⟩⟩⟩⟩⟩
      all_goals first | exact unknown | exact writeGate _ _ _ _ _ _ _ _
    · rcases payload with _ | ⟨_, _ | ⟨_, _ | ⟨_, _ | ⟨_, _ | ⟨_, _ | ⟨_, _ | ⟨_, _ | ⟨_, _ | ⟨_, _ | ⟨_, _ | ⟨_, _⟩⟩⟩⟩⟩⟩⟩⟩⟩⟩⟩
      all_goals first | exact unknown | exact writeBlock _ _ _ _ _ _ _ _ _ _
    · rcases payload with _ | ⟨_, _⟩
      all_goals first | exact unknown | exact commit
    · rcases payload with _ | ⟨_, _⟩
      all_goals first | exact unknown | exact abandon
    · rcases payload with _ | ⟨_, _ | ⟨_, _ | ⟨_, _ | ⟨_, _ | ⟨_, _⟩⟩⟩⟩⟩
      all_goals first | exact unknown | exact setScaler _ _
    · rcases payload with _ | ⟨_, _ | ⟨_, _ | ⟨_, _ | ⟨_, _ | ⟨_, _⟩⟩⟩⟩⟩
      all_goals first | exact unknown | exact setPosition _
    · rcases payload with _ | ⟨_, _ | ⟨_, _ | ⟨_, _ | ⟨_, _ | ⟨_, _ | ⟨_, _ | ⟨_, _ | ⟨_, _ | ⟨_, _ | ⟨_, _ | ⟨_, _⟩⟩⟩⟩⟩⟩⟩⟩⟩⟩⟩
      all_goals first | exact unknown | exact setMarker _ _ _ _ _ _
  · obtain ⟨m, rfl⟩ := Nat.exists_eq_add_of_le' (Nat.le_of_not_lt listed)
    exact unknown
section requests
variable (s : State) (p : Port) (tag : Byte)

theorem State.planMoves_doIdentify : s.PlanMoves (s.doIdentify p tag) :=
  s.planMoves_requestSame p tag _ fun _ => rfl

theorem State.planMoves_doReadStatus : s.PlanMoves (s.doReadStatus p tag) :=
  s.planMoves_requestSame p tag _ fun _ => rfl

theorem State.planMoves_doConfigurePort (hold threshold : BitVec 16) :
    s.PlanMoves (s.doConfigurePort p tag hold threshold) :=
  s.planMoves_requestSame p tag _ fun t => by split <;> rfl

theorem State.planMoves_doSubscribe (entry matchVal mask enabled : Byte) :
    s.PlanMoves (s.doSubscribe p tag entry matchVal mask enabled) :=
  s.planMoves_requestSame p tag _ fun t => by split <;> rfl

theorem State.planMoves_doGeneral (flag : Byte) : s.PlanMoves (s.doGeneral p tag flag) :=
  s.planMoves_requestSame p tag _ fun t => by split <;> rfl

theorem State.planMoves_doTake (count : Byte) : s.PlanMoves (s.doTake p tag count) :=
  s.planMoves_receive p tag _ fun _ => .same rfl

theorem State.planMoves_doSnapshot (probe : Byte) : s.PlanMoves (s.doSnapshot p tag probe) :=
  s.planMoves_requestSame p tag _ fun t => by
    unfold State.snapshotBy
    split
    · rfl
    · split <;> rfl

theorem State.planMoves_doCancelSnapshot : s.PlanMoves (s.doCancelSnapshot p tag) :=
  s.planMoves_requestSame p tag _ fun _ => rfl

theorem State.planMoves_doReadPlanEntry (role item index : Byte) :
    s.PlanMoves (s.doReadPlanEntry p tag role item index) :=
  s.planMoves_requestSame p tag _ fun t => by unfold State.readEntry; split <;> rfl

theorem State.planMoves_doClaimEdit : s.PlanMoves (s.doClaimEdit p tag) :=
  s.planMoves_request p tag _ fun t => t.planMoves_claim p

theorem State.planMoves_doReleaseEdit : s.PlanMoves (s.doReleaseEdit p tag) :=
  s.planMoves_request p tag _ fun t => t.planMoves_releaseRight p

theorem State.planMoves_doWriteStepSettings (source : Byte) (pitch : BitVec 16) (period : BitVec 32)
    (priority headA headB : Byte) :
    s.PlanMoves (s.doWriteStepSettings p tag source pitch period priority headA headB) :=
  s.planMoves_request p tag _ fun _ => State.planMoves_withRight <|
    State.planMoves_writeShadow _ fun ok _ hb => Bank.ranged_withSettings hb (StepSettings.ranged_settingsOf ok)

theorem State.planMoves_doWriteProbe (probe level : Byte) (pulseWidth : BitVec 16) (gain : Byte)
    (window settle : BitVec 16) (lossRun recoveryRun : Byte) :
    s.PlanMoves (s.doWriteProbe p tag probe level pulseWidth gain window settle lossRun recoveryRun) :=
  s.planMoves_request p tag _ fun _ => State.planMoves_withRight <|
    State.planMoves_writeShadow _ fun ok _ hb => Bank.ranged_setFields hb _ (ProbeFields.ranged_probeFieldsOf ok)

theorem State.planMoves_doWriteGate (probe place occupied kind origin : Byte) (start width threshold : BitVec 16) :
    s.PlanMoves (s.doWriteGate p tag probe place occupied kind origin start width threshold) :=
  s.planMoves_request p tag _ fun _ => State.planMoves_withRight <|
    State.planMoves_writeShadow _ fun ok _ hb => Bank.ranged_setGate hb _ _ fun _ hx => Gate.ranged_gateOf ok hx

theorem State.planMoves_doWriteBlock
    (block inUse probe decimation phase join report interval lengthCode next : Byte) :
    s.PlanMoves (s.doWriteBlock p tag block inUse probe decimation phase join report interval lengthCode next) :=
  s.planMoves_request p tag _ fun _ => State.planMoves_withRight <|
    State.planMoves_writeShadow _ fun ok _ hb => Bank.ranged_setBlock hb _ (Block.ranged_blockOf ok)

theorem State.planMoves_doCommit : s.PlanMoves (s.doCommit p tag) :=
  s.planMoves_request p tag _ fun _ => State.planMoves_withRight (State.planMoves_commitBy _ p)

theorem State.planMoves_doAbandon : s.PlanMoves (s.doAbandon p tag) :=
  s.planMoves_request p tag _ fun _ => State.planMoves_withRight (State.planMoves_abandonBy _)

theorem State.planMoves_doSetScaler (num den : BitVec 16) : s.PlanMoves (s.doSetScaler p tag num den) :=
  s.planMoves_request p tag _ fun t => State.planMoves_withRight <| .same <| by
    unfold State.setScalerBy
    split
    · split <;> rfl
    · rfl

theorem State.planMoves_doSetPosition (position : BitVec 32) : s.PlanMoves (s.doSetPosition p tag position) :=
  s.planMoves_request p tag _ fun _ => State.planMoves_withRight (.same rfl)

theorem State.planMoves_doSetMarker (marker enabled edge : Byte) (lockout : BitVec 16) (action : Byte)
    (load : BitVec 32) : s.PlanMoves (s.doSetMarker p tag marker enabled edge lockout action load) :=
  s.planMoves_request p tag _ fun t => State.planMoves_withRight <| .same <| by
    unfold State.setMarkerBy
    split <;> rfl

theorem State.planMoves_doStartRun (limit : BitVec 24) (label : BitVec 16) :
    s.PlanMoves (s.doStartRun p tag limit label) :=
  s.planMoves_requestSame p tag _ fun t => by
    unfold State.startBy
    split
    · simp
    · rfl

theorem State.planMoves_doStopRun : s.PlanMoves (s.doStopRun p tag) :=
  s.planMoves_request p tag _ fun t => by
    unfold State.stopBy
    split
    · exact .refl t
    · exact (State.PlanMoves.ofSame t.plan_stop (State.planMoves_swapIfDue _)).thenSame (State.plan_endPool _)

theorem State.planMoves_doHoldProbe (probe : Byte) : s.PlanMoves (s.doHoldProbe p tag probe) :=
  s.planMoves_request p tag _ fun t => by
    unfold State.holdBy
    split
    · exact .refl t
    · dsimp only
      unfold State.hold
      split
      · exact (State.PlanMoves.ofSame (by simp) (State.planMoves_reform _ _)).thenSame (State.plan_endPool _)
      · exact .same rfl

theorem State.planMoves_doReleaseProbe (probe : Byte) : s.PlanMoves (s.doReleaseProbe p tag probe) :=
  s.planMoves_requestSame p tag _ fun t => by
    unfold State.unholdBy
    split
    · rfl
    · split
      · simp
      · rfl

theorem State.planMoves_doUnknown (kind : Byte) : s.PlanMoves (s.doUnknown p tag kind) :=
  s.planMoves_requestSame p tag kind fun _ => rfl

/-- A complete frame moves the Plan Store as the request of its kind does (R165, R166). -/
theorem State.planMoves_handleFrame (kind : Byte) (payload : List Byte) :
    s.PlanMoves (s.handleFrame p tag kind payload) :=
  State.handleFrame_cases (s.planMoves_doIdentify p tag) (s.planMoves_doReadStatus p tag)
    (s.planMoves_doConfigurePort p tag) (s.planMoves_doSubscribe p tag) (s.planMoves_doGeneral p tag)
    (s.planMoves_doTake p tag) (s.planMoves_doSnapshot p tag) (s.planMoves_doCancelSnapshot p tag)
    (s.planMoves_doReadPlanEntry p tag) (s.planMoves_doClaimEdit p tag) (s.planMoves_doStartRun p tag)
    (s.planMoves_doStopRun p tag) (s.planMoves_doHoldProbe p tag) (s.planMoves_doReleaseProbe p tag)
    (s.planMoves_doReleaseEdit p tag) (s.planMoves_doWriteStepSettings p tag) (s.planMoves_doWriteProbe p tag)
    (s.planMoves_doWriteGate p tag) (s.planMoves_doWriteBlock p tag) (s.planMoves_doCommit p tag)
    (s.planMoves_doAbandon p tag) (s.planMoves_doSetScaler p tag) (s.planMoves_doSetPosition p tag)
    (s.planMoves_doSetMarker p tag) kind (s.planMoves_doUnknown p tag kind) payload

end requests

/-! ## The receive side -/

theorem State.planMoves_frameComplete (s : State) (p : Port) (len : Byte) (body : List Byte) :
    s.PlanMoves (s.frameComplete p len body) := by
  have handled : ∀ tag kind payload, s.PlanMoves ((s.setRx p []).handleFrame p tag kind payload) := fun tag kind payload =>
    State.PlanMoves.ofSame (by rfl) (State.planMoves_handleFrame (s.setRx p []) p tag kind payload)
  have error : s.PlanMoves (s.framingError p) := .same rfl
  unfold State.frameComplete
  dsimp only
  split
  · split
    · split
      · split
        · exact handled _ _ _
        · exact error
      · exact handled _ _ _
    · exact error
  · exact error

theorem State.planMoves_receiveChar (s : State) (p : Port) (c : Byte) : s.PlanMoves (s.receiveChar p c) := by
  unfold State.receiveChar
  split
  · split <;> exact .same rfl
  · split <;> exact .same rfl
  · split
    · exact .same rfl
    · exact s.planMoves_frameComplete p _ _

theorem State.planMoves_receiveChars (s : State) (p : Port) (chars : List Byte) :
    s.PlanMoves (s.receiveChars p chars) := by
  have fold : ∀ (l : List Byte) (t : State), t.PlanMoves (l.foldl (fun t c => t.receiveChar p c) t) := by
    intro l
    induction l with
    | nil => exact fun t => .refl t
    | cons c l ih => exact fun t => (t.planMoves_receiveChar p c).trans (ih _)
  unfold State.receiveChars
  split
  · exact .refl s
  · exact fold chars s

/-! ## Commands -/

/-- What takes place while RESET is released moves the Plan Store as it does there (log 13). -/
theorem planMoves_whileReleased {f : State → State} (h : ∀ s : State, s.PlanMoves (f s)) {s t : State}
    (e : whileReleased f s = .next t) : s.PlanMoves t := by
  cases e
  split
  · exact .refl s
  · exact h s

/-- Every command moves the Plan Store by its moves. -/
theorem exec_planMoves {c : Instr} {s t : State} (e : exec c s = .next t) : s.PlanMoves t := by
  cases c with
  | hardwareReset => cases e; exact .one (.reset s.plan)
  | resetRelease encA encB m0 m1 present =>
    cases e
    split <;> exact .same rfl
  | encoderTransition a b => exact planMoves_whileReleased (fun s => s.planMoves_transition a b) e
  | speedWindowEnd => exact planMoves_whileReleased (f := State.speedWindow) (fun _ => .same rfl) e
  | markerEdge m level => exact planMoves_whileReleased (fun s => .same (s.plan_markerChange m level)) e
  | stepTimerExpiry => exact planMoves_whileReleased State.planMoves_timerExpiry e
  | channelWindowEnd ch first rest =>
    exact planMoves_whileReleased (fun s => (s.planMoves_windowEnd ch first rest).thenSame (State.plan_endPool _)) e
  | channelSettleEnd ch =>
    exact planMoves_whileReleased (fun s => (s.planMoves_settleEnd ch).thenSame (State.plan_endPool _)) e
  | shadowCopyCompletion => exact planMoves_whileReleased (f := fun t => { t with plan := t.plan.copyDone }) (fun s => s.plan.moves_copyDone) e
  | editIdleTimerExpiry => exact planMoves_whileReleased State.planMoves_idleExpiry e
  | heldTakeExpiry p => exact planMoves_whileReleased (fun s => .same (s.plan_heldExpiry p)) e
  | presentAsserted p => exact planMoves_whileReleased (fun s => .same (s.plan_presentRises p)) e
  | portReset p => exact planMoves_whileReleased (fun s => s.planMoves_presentFalls p) e
  | frameError p chars => exact planMoves_whileReleased (fun s => s.planMoves_receiveChars p chars) e
  | interCharacterGapTimeout p => exact planMoves_whileReleased (fun s => .same (s.plan_gapTimeout p)) e
  | unknownRequest p tag kind =>
    refine planMoves_whileReleased (f := fun t => if knownKind kind then t else t.doUnknown p tag kind) (fun s => ?_) e
    split
    · exact .refl s
    · exact s.planMoves_doUnknown p tag kind
  | busyRefusal p tag kind =>
    refine planMoves_whileReleased
      (f := fun t => if (t.hub.ctl p).state = .answering then t.receive p tag kind (fun u => u) else t) (fun s => ?_) e
    split
    · exact s.planMoves_receive p tag kind State.PlanMoves.refl
    · exact .refl s
  | frameSent p => exact planMoves_whileReleased (fun s => .same (s.plan_sent p)) e
  | identify p tag => exact planMoves_whileReleased (fun s => s.planMoves_doIdentify p tag) e
  | readStatus p tag => exact planMoves_whileReleased (fun s => s.planMoves_doReadStatus p tag) e
  | configurePort p tag hold threshold =>
    exact planMoves_whileReleased (fun s => s.planMoves_doConfigurePort p tag hold threshold) e
  | subscribe p tag entry matchVal mask enabled =>
    exact planMoves_whileReleased (fun s => s.planMoves_doSubscribe p tag entry matchVal mask enabled) e
  | general p tag flag => exact planMoves_whileReleased (fun s => s.planMoves_doGeneral p tag flag) e
  | take p tag count => exact planMoves_whileReleased (fun s => s.planMoves_doTake p tag count) e
  | snapshot p tag probe => exact planMoves_whileReleased (fun s => s.planMoves_doSnapshot p tag probe) e
  | cancelSnapshot p tag => exact planMoves_whileReleased (fun s => s.planMoves_doCancelSnapshot p tag) e
  | readPlanEntry p tag role item index =>
    exact planMoves_whileReleased (fun s => s.planMoves_doReadPlanEntry p tag role item index) e
  | claimEdit p tag => exact planMoves_whileReleased (fun s => s.planMoves_doClaimEdit p tag) e
  | releaseEdit p tag => exact planMoves_whileReleased (fun s => s.planMoves_doReleaseEdit p tag) e
  | writeStepSettings p tag source pitch period priority headA headB =>
    exact planMoves_whileReleased
      (fun s => s.planMoves_doWriteStepSettings p tag source pitch period priority headA headB) e
  | writeProbe p tag probe level pulseWidth gain window settle lossRun recoveryRun =>
    exact planMoves_whileReleased
      (fun s => s.planMoves_doWriteProbe p tag probe level pulseWidth gain window settle lossRun recoveryRun) e
  | writeGate p tag probe place occupied kind origin start width threshold =>
    exact planMoves_whileReleased
      (fun s => s.planMoves_doWriteGate p tag probe place occupied kind origin start width threshold) e
  | writeBlock p tag block inUse probe decimation phase join report interval lengthCode next =>
    exact planMoves_whileReleased
      (fun s => s.planMoves_doWriteBlock p tag block inUse probe decimation phase join report interval lengthCode next) e
  | commit p tag => exact planMoves_whileReleased (fun s => s.planMoves_doCommit p tag) e
  | abandon p tag => exact planMoves_whileReleased (fun s => s.planMoves_doAbandon p tag) e
  | setScaler p tag num den => exact planMoves_whileReleased (fun s => s.planMoves_doSetScaler p tag num den) e
  | setPosition p tag position => exact planMoves_whileReleased (fun s => s.planMoves_doSetPosition p tag position) e
  | setMarker p tag marker enabled edge lockout action load =>
    exact planMoves_whileReleased
      (fun s => s.planMoves_doSetMarker p tag marker enabled edge lockout action load) e
  | startRun p tag limit label => exact planMoves_whileReleased (fun s => s.planMoves_doStartRun p tag limit label) e
  | stopRun p tag => exact planMoves_whileReleased (fun s => s.planMoves_doStopRun p tag) e
  | holdProbe p tag probe => exact planMoves_whileReleased (fun s => s.planMoves_doHoldProbe p tag probe) e
  | releaseProbe p tag probe => exact planMoves_whileReleased (fun s => s.planMoves_doReleaseProbe p tag probe) e

/-- Every step moves the Plan Store by its moves. -/
theorem step_planMoves {s t : State} (e : step s = .next t) : s.PlanMoves t := by
  unfold step at e
  split at e
  · cases e; exact .refl s
  · exact State.PlanMoves.ofSame (by rfl) (exec_planMoves e)

/-- A property of the Plan Store that every move keeps is kept by every step. -/
theorem step_keeps_of_moves {P : PlanStore → Prop} (keeps : ∀ x y, PlanStore.Move x y → P x → P y) {s t : State}
    (e : step s = .next t) (h : P s.plan) : P t.plan := by
  have moves : Relation.ReflTransGen PlanStore.Move s.plan t.plan := step_planMoves e
  generalize t.plan = y at moves ⊢
  induction moves with
  | refl => exact h
  | tail _ m ih => exact keeps _ _ m ih

end Sys2Proof.Machine
end

section
/-! SUPPORT. The two invariants of the Plan Store: every move keeps the fields of both banks in range (R15), and the
active bank checked and signed (R1, R13, R36, R38). -/

namespace Sys2Proof.Machine

/-! ## The banks after each update -/

@[simp] theorem PlanStore.activeBank_setShadow (x : PlanStore) (b : Bank) :
    (x.setShadow b).activeBank = x.activeBank := by
  unfold PlanStore.setShadow
  split
  · next h => simp [PlanStore.activeBank, h]
  · next h => simp [PlanStore.activeBank, h]

@[simp] theorem PlanStore.shadowBank_setShadow (x : PlanStore) (b : Bank) : (x.setShadow b).shadowBank = b := by
  unfold PlanStore.setShadow
  split
  · next h => simp [PlanStore.shadowBank, h]
  · next h => simp [PlanStore.shadowBank, h]

@[simp] theorem PlanStore.signature_setShadow (x : PlanStore) (b : Bank) : (x.setShadow b).signature = x.signature := by
  unfold PlanStore.setShadow
  split <;> rfl

@[simp] theorem PlanStore.commit_setShadow (x : PlanStore) (b : Bank) : (x.setShadow b).commit = x.commit := by
  unfold PlanStore.setShadow
  split <;> rfl

/-- The banks change roles at the swap (R38). -/
@[simp] theorem PlanStore.activeBank_swapped (x : PlanStore) (sig : BitVec 32) :
    (x.swapped sig).activeBank = x.shadowBank := by
  obtain h | h : x.activeIx = 0 ∨ x.activeIx = 1 := by omega
  · simp [PlanStore.swapped, PlanStore.activeBank, PlanStore.shadowBank, h]
  · simp [PlanStore.swapped, PlanStore.activeBank, PlanStore.shadowBank, h]

@[simp] theorem PlanStore.shadowBank_swapped (x : PlanStore) (sig : BitVec 32) :
    (x.swapped sig).shadowBank = x.activeBank := by
  obtain h | h : x.activeIx = 0 ∨ x.activeIx = 1 := by omega
  · simp [PlanStore.swapped, PlanStore.activeBank, PlanStore.shadowBank, h]
  · simp [PlanStore.swapped, PlanStore.activeBank, PlanStore.shadowBank, h]

/-! ## Ranges -/

/-- Both banks of a Plan Store hold every field within its stored range (R15). -/
def PlanStore.banksRanged (x : PlanStore) : Prop := x.activeBank.ranged ∧ x.shadowBank.ranged

theorem State.banksRanged_iff (s : State) : s.banksRanged ↔ s.plan.banksRanged := by
  unfold State.banksRanged PlanStore.banksRanged PlanStore.activeBank PlanStore.shadowBank
  split
  · exact Iff.rfl
  · exact and_comm

@[simp] theorem Bank.probe_emptyPlan (p : ProbeNo) : emptyPlan.probe p = emptyProbe := by
  simp [Bank.probe, emptyPlan]

@[simp] theorem Bank.block_emptyPlan (i : BlockIx) : emptyPlan.block i = emptyBlock := by
  simp [Bank.block, emptyPlan]

/-- The empty plan is within the stored ranges (R14, R15). -/
theorem Bank.ranged_emptyPlan : emptyPlan.ranged := by
  have settings : emptySettings.ranged := by unfold StepSettings.ranged; decide
  have fields : emptyProbe.fields.ranged := by unfold ProbeFields.ranged; decide
  have block : emptyBlock.ranged := by unfold Block.ranged; decide
  refine ⟨settings, fun p => ?_, fun i => ?_⟩
  · rw [Bank.probe_emptyPlan]
    refine ⟨fields, fun i g hg => ?_⟩
    simp [emptyProbe] at hg
  · rw [Bank.block_emptyPlan]
    exact block

theorem PlanStore.banksRanged_reset : PlanStore.reset.banksRanged := ⟨Bank.ranged_emptyPlan, Bank.ranged_emptyPlan⟩

/-- Every move keeps both banks in range: a write puts values in range into the shadow bank, the swap and the copy move
whole banks. -/
theorem PlanStore.Move.keeps_banksRanged {x y : PlanStore} (m : PlanStore.Move x y) (h : x.banksRanged) :
    y.banksRanged := by
  obtain ⟨active, shadow⟩ := h
  cases m with
  | right holder idle => exact ⟨active, shadow⟩
  | startCopy sig committer => exact ⟨active, shadow⟩
  | write b free kept => exact ⟨by simpa using active, by simpa using kept shadow⟩
  | pend figs p passed => exact ⟨active, shadow⟩
  | swap sig due held => exact ⟨by simpa using shadow, by simpa using active⟩
  | copied =>
    have h : (x.setShadow x.activeBank).banksRanged := ⟨by simpa using active, by simpa using active⟩
    exact h
  | reset => exact PlanStore.banksRanged_reset

/-! ## Checks and signatures -/

/-- The signature among the figures of a bank that passes is its own (R22). -/
theorem checkBank_signature {b : Bank} {figs : Figures} (h : checkBank b = .ok figs) :
    figs.signature = signatureOf b := by
  unfold checkBank at h
  split at h
  · cases h
  · split at h
    · cases h
    · split at h
      · cases h
      · split at h
        · cases h
        · cases h; rfl

/-- The signature held is that of the active bank, which passes the commit check; while a commit is pending, the shadow
bank passes it too and its signature is the pending one (R1, R36, R38). -/
def PlanStore.activeChecked (x : PlanStore) : Prop :=
  x.signature = signatureOf x.activeBank ∧ (∃ f, checkBank x.activeBank = .ok f) ∧
    (x.commit = .pending → ∃ f, checkBank x.shadowBank = .ok f ∧ x.pendingSig = some f.signature)

theorem State.activeChecked_iff (s : State) : s.activeChecked ↔ s.plan.activeChecked := Iff.rfl

/-- The empty plan passes the commit check with cycle times of 0 (R14, R21). -/
theorem checkBank_emptyPlan :
    checkBank emptyPlan = .ok { cycleA := 0, cycleB := 0, signature := signatureOf emptyPlan } := by
  have probes : probesFault emptyPlan = none := by decide +kernel
  have blocks : blocksFault emptyPlan = none := by decide +kernel
  have chain : ∀ r taken, chainPhase emptyPlan r taken = .ok [] := by intro r taken; cases r <;> rfl
  unfold checkBank
  rw [probes, blocks]
  simp only [chain]
  rfl

theorem PlanStore.activeChecked_reset : PlanStore.reset.activeChecked :=
  ⟨rfl, ⟨_, checkBank_emptyPlan⟩, fun h => nomatch h⟩

/-- Every move keeps the active bank checked and signed: only the swap changes the active bank, and it brings in the
bank that passed when the commit was taken, which no move has changed since. -/
theorem PlanStore.Move.keeps_activeChecked {x y : PlanStore} (m : PlanStore.Move x y) (h : x.activeChecked) :
    y.activeChecked := by
  obtain ⟨signed, passes, pends⟩ := h
  cases m with
  | right holder idle => exact ⟨signed, passes, pends⟩
  | startCopy sig committer => exact ⟨signed, passes, fun h => nomatch h⟩
  | write b free kept =>
    refine ⟨by simpa using signed, by simpa using passes, fun h => ?_⟩
    rw [PlanStore.commit_setShadow, free] at h
    cases h
  | pend figs p passed => exact ⟨signed, passes, fun _ => ⟨figs, passed, rfl⟩⟩
  | swap sig due held =>
    obtain ⟨figs, passed, sigs⟩ := pends due
    obtain rfl : sig = figs.signature := by simpa [held] using sigs
    refine ⟨?_, ⟨figs, by simpa using passed⟩, fun h => nomatch h⟩
    rw [PlanStore.activeBank_swapped]
    exact checkBank_signature passed
  | copied =>
    have signed' : (x.setShadow x.activeBank).signature = signatureOf (x.setShadow x.activeBank).activeBank := by
      simpa using signed
    have passes' : ∃ f, checkBank (x.setShadow x.activeBank).activeBank = .ok f := by simpa using passes
    exact ⟨signed', passes', fun h => nomatch h⟩
  | reset => exact PlanStore.activeChecked_reset

end Sys2Proof.Machine

namespace Sys2Proof.Proofs
open Sys2Proof.Machine

/-- Settles O53: every step moves the Plan Store, and every move keeps both banks in range. -/
theorem stepsKeepBanksInRange : Obligations.StepsKeepBanksInRange := by
  intro s t h e
  rw [State.banksRanged_iff] at h ⊢
  exact step_keeps_of_moves (fun _ _ m => m.keeps_banksRanged) e h

/-- Settles O54: every step moves the Plan Store, and every move keeps the active bank checked and signed. -/
theorem stepsKeepTheActiveBankChecked : Obligations.StepsKeepTheActiveBankChecked := by
  intro s t h e
  rw [State.activeChecked_iff] at h ⊢
  exact step_keeps_of_moves (fun _ _ m => m.keeps_activeChecked) e h

end Sys2Proof.Proofs
end

section
/-! SUPPORT. The state right after hardware reset: the values of its vectors, and the invariants it meets. -/

namespace Sys2Proof.Machine

theorem State.chans_reset (c : Chan) : State.reset.chans[c] = Channel.reset := by simp [State.reset]

theorem State.probes_reset (p : ProbeNo) : State.reset.coup.probes[p] = ProbeCoupling.reset := by
  simp [State.reset, Coupling.reset]

@[simp] theorem State.seq_reset (r : Rail) : State.reset.seq r = Sequencer.reset := by cases r <;> rfl

theorem Hub.ports_reset (p : Port) : Hub.reset.ports[p] = PortUnit.reset := by simp [Hub.reset]

@[simp] theorem Hub.ctl_reset (p : Port) : Hub.reset.ctl p = PortCtl.reset := by
  rw [Hub.ctl, Hub.ports_reset]; rfl

@[simp] theorem Hub.dist_reset (p : Port) : Hub.reset.dist p = PortDist.reset := by
  rw [Hub.dist, Hub.ports_reset]; rfl

theorem State.odoRanged_reset : State.reset.odoRanged := by
  unfold State.odoRanged MarkerUnit.ranged
  decide

theorem State.frontierLeads_reset : State.reset.frontierLeads := by
  unfold State.frontierLeads
  decide

theorem State.runAgrees_reset : State.reset.runAgrees := by
  refine ⟨by decide, by decide, by decide, fun r => ?_, fun r _ => ?_⟩
  · rw [State.seq_reset]; decide
  · rw [State.seq_reset]; rfl

theorem State.couplingRanged_reset : State.reset.couplingRanged := by
  intro p
  rw [State.probes_reset]
  unfold ProbeCoupling.ranged
  decide

theorem State.poolSound_reset : State.reset.poolSound := by
  refine ⟨rfl, by decide, .inl rfl, by decide, fun n h => ?_⟩
  cases h

theorem State.portsSound_reset : State.reset.portsSound := by
  intro p
  have e : State.reset.hub.ports[p] = PortUnit.reset := Hub.ports_reset p
  rw [e]
  exact ⟨by decide, by decide, by decide, by decide, fun _ => rfl, fun h => nomatch h⟩

theorem State.refsAgree_reset : State.reset.refsAgree := by
  have noQueue : ∀ q, (State.reset.hub.dist q).queue = [] := fun q => by
    rw [show State.reset.hub.dist q = PortDist.reset from Hub.dist_reset q]; rfl
  have noWindow : ∀ c : Chan, State.reset.chans[c].phase ≠ .listening := fun c => by rw [State.chans_reset]; decide
  refine ⟨rfl, fun n => ?_, fun q n => ?_, fun c h => absurd h (noWindow c), fun c _ h => absurd h (noWindow c)⟩
  · show State.reset.hub.holders n = 0
    simp [Hub.holders, noQueue]
  · simp [noQueue]

theorem State.attentionFollows_reset : State.reset.attentionFollows := by
  intro q
  rw [show State.reset.hub.dist q = PortDist.reset from Hub.dist_reset q]
  rfl

end Sys2Proof.Machine

namespace Sys2Proof.Proofs
open Sys2Proof.Machine

/-- Settles O52, invariant by invariant. -/
theorem resetMeetsEveryInvariant : Obligations.ResetMeetsEveryInvariant :=
  ⟨(State.banksRanged_iff _).2 PlanStore.banksRanged_reset, PlanStore.activeChecked_reset, State.odoRanged_reset,
    State.frontierLeads_reset, State.runAgrees_reset, ⟨rfl, rfl⟩, State.couplingRanged_reset, State.poolSound_reset,
    State.portsSound_reset, State.refsAgree_reset, State.attentionFollows_reset⟩

/-- Settles O3: HARDWARE_RESET answers the state right after reset with the queue and the counter kept. -/
theorem hardwareResetSetsEveryBlock : Obligations.HardwareResetSetsEveryBlock := by
  refine ⟨rfl, Bank.probe_emptyPlan, Bank.block_emptyPlan, checkBank_emptyPlan, fun s => ⟨_, rfl, rfl, rfl, ?_⟩⟩
  have markers : ∀ m, State.reset.odo.marker m = MarkerUnit.reset := fun m => by cases m <;> rfl
  have marker : MarkerUnit.reset.enabled = false ∧ MarkerUnit.reset.edge = .rising ∧ MarkerUnit.reset.lockout = 0 ∧
      MarkerUnit.reset.action = .mark ∧ MarkerUnit.reset.load = 0 ∧ MarkerUnit.reset.counter = 65535 :=
    ⟨rfl, rfl, rfl, rfl, rfl, rfl⟩
  have channel : ∀ c : Chan, State.reset.chans[c].phase = .free ∧ State.reset.chans[c].binding = none ∧
      State.reset.chans[c].fe = none ∧
      State.reset.chans[c].eval = { gates := [], crossing := none, excerpt := none } := fun c => by
    rw [State.chans_reset]; exact ⟨rfl, rfl, rfl, rfl⟩
  exact ⟨⟨rfl, rfl, rfl, rfl, rfl, rfl, rfl, rfl⟩, fun m => (markers m).symm ▸ marker, rfl, State.seq_reset, channel,
    rfl, State.probes_reset, ⟨rfl, rfl⟩, rfl, Hub.ctl_reset, Hub.dist_reset, rfl, rfl, rfl⟩

end Sys2Proof.Proofs
end

section
/-! SUPPORT. Requests that are refused or only read: the part is as it was, and the answer is the reply of their rule. -/

namespace Sys2Proof.Machine

/-- A request whose rule leaves the part as it is is answered by its reply and changes nothing (R166). -/
theorem State.request_unchanged {s : State} {p : Port} (h : s.takesOn p) (tag kind : Byte)
    {serve : State → State × Reply} {r : Reply}
    (hs : serve (s.withHub (s.hub.setCtl p (s.hub.ctl p).taken)) =
      (s.withHub (s.hub.setCtl p (s.hub.ctl p).taken), r)) :
    ∃ t, whileReleased (fun x => x.request p tag kind serve) s = .next t ∧
      s.answeredBy p (.response tag kind r) t :=
  State.request_answers h tag kind serve s r hs

/-- The holder's request that its rule refuses is refused so (R24). -/
theorem State.withRight_refused {s : State} {p : Port} {body : State → State × Reply} {r : Reason}
    (h : s.plan.holder = some p) (hb : body s = (s, .refused r)) : s.withRight p body = (s, .refused r) := by
  simp [State.withRight, h, hb, Reply.accepted]

/-- A holder's request with the rule `body` that refuses is answered REFUSED and changes nothing. -/
theorem State.request_refused {s : State} {p : Port} (h : s.takesOn p) (hold : s.plan.holder = some p)
    (tag kind : Byte) {body : State → State × Reply} {r : Reason}
    (hb : ∀ k : Hub, body (s.withHub k) = (s.withHub k, .refused r)) :
    ∃ t, whileReleased (fun x => x.request p tag kind fun t => t.withRight p body) s = .next t ∧
      s.answeredBy p (.response tag kind (.refused r)) t :=
  State.request_unchanged h tag kind (State.withRight_refused hold (hb _))

/-! ## Shadow-bank writes -/

theorem State.writeShadow_busy {s : State} {checks : List Bool} {edit : Bank → Bank} (h : s.plan.commit ≠ .none) :
    s.writeShadow checks edit = (s, .refused .busy) := if_neg h

theorem State.writeShadow_range {s : State} {checks : List Bool} {edit : Bank → Bank} {n : Nat}
    (h : s.plan.commit = .none) (hn : firstOutside n checks) :
    s.writeShadow checks edit = (s, .refused (.range n)) := by
  unfold State.writeShadow
  rw [if_pos h, (firstBad_eq_some_iff checks n).2 hn]

/-- The holder's write is refused BUSY unless the commit state is NONE, and in NONE refused RANGE with the first field
out of range (R30). -/
theorem State.write_refused {s : State} {p : Port} (h : s.takesOn p) (hold : s.plan.holder = some p) (tag kind : Byte)
    (checks : List Bool) (edit : Bank → Bank) :
    let run := whileReleased
      (fun x => x.request p tag kind fun t => t.withRight p fun u => u.writeShadow checks edit) s
    (s.plan.commit ≠ .none →
      ∃ t : State, run = .next t ∧ s.answeredBy p (.response tag kind (.refused .busy)) t) ∧
    ∀ n, s.plan.commit = .none → firstOutside n checks →
      ∃ t : State, run = .next t ∧ s.answeredBy p (.response tag kind (.refused (.range n))) t :=
  ⟨fun hc => State.request_refused h hold tag kind fun _ => State.writeShadow_busy hc,
    fun _ hc hn => State.request_refused h hold tag kind fun _ => State.writeShadow_range hc hn⟩

/-! ## The checks of the fields (R31 to R35) -/

theorem settingsChecks_eq (source : Byte) (pitch : BitVec 16) (period : BitVec 32) (priority headA headB : Byte) :
    settingsChecks source pitch period priority headA headB =
      [decide (source.toNat ≤ 2), decide (4 ≤ pitch.toNat ∧ pitch.toNat ≤ 400),
        decide (100 ≤ period.toNat ∧ period.toNat ≤ 100000), decide (priority.toNat ≤ 1), decide (headA.toNat ≤ 64),
        decide (headB.toNat ≤ 64)] := by
  simp [settingsChecks, inRange]

theorem probeChecks_eq (probe level : Byte) (pulseWidth : BitVec 16) (gain : Byte) (window settle : BitVec 16)
    (lossRun recoveryRun : Byte) :
    probeChecks probe level pulseWidth gain window settle lossRun recoveryRun =
      [decide (probe.toNat ≤ 23), decide (1 ≤ level.toNat ∧ level.toNat ≤ 8),
        decide (50 ≤ pulseWidth.toNat ∧ pulseWidth.toNat ≤ 500), decide (gain.toNat ≤ 160),
        decide (200 ≤ window.toNat ∧ window.toNat ≤ 4000), decide (settle.toNat ≤ 500),
        decide (1 ≤ lossRun.toNat ∧ lossRun.toNat ≤ 15), decide (1 ≤ recoveryRun.toNat ∧ recoveryRun.toNat ≤ 15)] := by
  simp [probeChecks, inRange]

theorem gateChecks_eq (probe place occupied kind origin : Byte) (start width threshold : BitVec 16) :
    gateChecks probe place occupied kind origin start width threshold =
      [decide (probe.toNat ≤ 23), decide (place.toNat ≤ 3), decide (occupied.toNat ≤ 1)] ++
        if occupied.toNat = 0 then []
        else
          [decide (kind.toNat ≤ 2), decide (origin.toNat ≤ 1), decide (start.toNat ≤ 3999),
            decide (1 ≤ width.toNat ∧ width.toNat ≤ 4000), decide (1 ≤ threshold.toNat ∧ threshold.toNat ≤ 1023)] := by
  simp [gateChecks, isFlag, inRange]

theorem blockChecks_eq (block inUse probe decimation phase join report interval lengthCode next : Byte) :
    blockChecks block inUse probe decimation phase join report interval lengthCode next =
      [decide (1 ≤ block.toNat ∧ block.toNat ≤ 64), decide (inUse.toNat ≤ 1), decide (probe.toNat ≤ 23),
        decide (1 ≤ decimation.toNat ∧ decimation.toNat ≤ 16), decide (phase.toNat ≤ 15), decide (join.toNat ≤ 1),
        decide (report.toNat ≤ 1), decide (interval.toNat ≤ 255), decide (lengthCode.toNat ≤ 3),
        decide (next.toNat ≤ 64)] := by
  simp [blockChecks, isFlag, inRange]

theorem readChecks_eq (role item index : Byte) :
    readChecks role item index =
      [decide (role.toNat ≤ 1), decide (item.toNat ≤ 2),
        if item.toNat = 0 then decide (index.toNat = 0)
        else if item.toNat = 1 then decide (index.toNat ≤ 23)
        else decide (1 ≤ index.toNat ∧ index.toNat ≤ 64)] := by
  simp [readChecks, inRange]

end Sys2Proof.Machine

namespace Sys2Proof.Proofs
open Sys2Proof.Machine

/-- Settles O41: each of the four writes is refused as every write is, its field checks being those listed. -/
theorem shadowWritesAreRefused : Obligations.ShadowWritesAreRefused := by
  intro c q s inside hq ht hold hc
  obtain ⟨p, tag, source, pitch, period, priority, headA, headB, rfl, rfl⟩ |
    ⟨p, tag, probe, level, pulseWidth, gain, window, settle, lossRun, recoveryRun, rfl, rfl⟩ |
    ⟨p, tag, probe, place, occupied, kind, origin, start, width, threshold, rfl, rfl⟩ |
    ⟨p, tag, block, inUse, probe, decimation, phase, join, report, interval, lengthCode, next, rfl, rfl⟩ := hc
  · cases hq
    rw [← settingsChecks_eq]
    exact State.write_refused ht hold tag _ _ _
  · cases hq
    rw [← probeChecks_eq]
    exact State.write_refused ht hold tag _ _ _
  · cases hq
    rw [← gateChecks_eq (kind := kind)]
    exact State.write_refused ht hold tag _ _ _
  · cases hq
    rw [← blockChecks_eq]
    exact State.write_refused ht hold tag _ _ _

end Sys2Proof.Proofs
end

section
/-! SUPPORT. The window end: what the Coupling Monitor leaves alone, and the completion of a shot and the window end as
one equation each. -/

namespace Sys2Proof.Machine

/-- While RESET is released, what takes place then takes place (log 13). -/
theorem whileReleased_released {s : State} (h : s.resetLow = false) (f : State → State) :
    whileReleased f s = .next (f s) := by
  simp [whileReleased, h]

/-- The Coupling Monitor changes its own states, the spray lines and the road of records: nothing else (R109, R112). -/
theorem State.couple_eq (s : State) (p : ProbeNo) (hit : Option Bool) (n : StepNo) :
    ∃ (coup : Coupling) (hub : Hub), s.couple p hit n = { s with coup := coup, hub := hub } := by
  unfold State.couple
  rcases hit with _ | _ | _
  · exact ⟨s.coup, s.hub, rfl⟩
  · simp only [Bool.false_eq_true, if_false]
    split <;> exact ⟨_, _, rfl⟩
  · simp only [if_true]
    split <;> exact ⟨_, _, rfl⟩

section couple
variable (s : State) (p : ProbeNo) (hit : Option Bool) (n : StepNo)

@[simp] theorem State.resetLow_couple : (s.couple p hit n).resetLow = s.resetLow := by
  obtain ⟨coup, hub, e⟩ := s.couple_eq p hit n; rw [e]

@[simp] theorem State.odo_couple : (s.couple p hit n).odo = s.odo := by
  obtain ⟨coup, hub, e⟩ := s.couple_eq p hit n; rw [e]

@[simp] theorem State.gen_couple : (s.couple p hit n).gen = s.gen := by
  obtain ⟨coup, hub, e⟩ := s.couple_eq p hit n; rw [e]

@[simp] theorem State.chans_couple : (s.couple p hit n).chans = s.chans := by
  obtain ⟨coup, hub, e⟩ := s.couple_eq p hit n; rw [e]

@[simp] theorem State.arb_couple : (s.couple p hit n).arb = s.arb := by
  obtain ⟨coup, hub, e⟩ := s.couple_eq p hit n; rw [e]

@[simp] theorem State.run_couple : (s.couple p hit n).run = s.run := by
  obtain ⟨coup, hub, e⟩ := s.couple_eq p hit n; rw [e]

@[simp] theorem State.seq_couple (r : Rail) : (s.couple p hit n).seq r = s.seq r := by
  obtain ⟨coup, hub, e⟩ := s.couple_eq p hit n; rw [e]; cases r <;> rfl

end couple

/-- The coupling state of the shot's probe follows the tables (R112 to R114). -/
theorem State.probes_couple_self (s : State) (p : ProbeNo) (hit : Option Bool) (n : StepNo) :
    (s.couple p hit n).coup.probes[p] =
      (match hit with
        | none => s.coup.probes[p]
        | some true => (s.coup.probes[p]).hit (s.bank.probe p).fields.recoveryRun
        | some false => (s.coup.probes[p]).miss (s.bank.probe p).fields.lossRun) := by
  simp only [Fin.getElem_fin, State.probes_couple]
  rcases hit with _ | _ | _ <;> simp

/-- The coupling state of every other probe stays (R112). -/
theorem State.probes_couple_other (s : State) (p q : ProbeNo) (hit : Option Bool) (n : StepNo) (h : q ≠ p) :
    (s.couple p hit n).coup.probes[q] = s.coup.probes[q] := by
  have hv : p.val ≠ q.val := fun e => h (Fin.ext e.symm)
  simp only [Fin.getElem_fin, State.probes_couple]
  rcases hit with _ | _ <;> simp [hv]

/-- The pool and the ports after the shot in slot `n` has been reported or discarded, as the report decision says (R109,
R110); `t` is the part after the Coupling Monitor has taken the shot. -/
def State.shotHub (s t : State) (b : Binding) (e : Evaluator) (x : Slot) (g : ShotGrant) (rule : ReportRule) : Hub :=
  if reportDecision rule g e.results (decide (s.coup.probes[b.probe].state ≠ t.coup.probes[b.probe].state))
      x.page.isSome = true then
    t.hub.report b.slot x (e.excerpt.map (fun a => a.samples)) (t.mkRec (.shot (t.shotOf b.probe g e.results)))
  else t.hub.discardShot b.slot

/-- The completion of a shot that its slot holds (R109). -/
theorem State.completeShot_eq {s : State} {b : Binding} {x : Slot} {g : ShotGrant} {rule : ReportRule}
    (hx : s.hub.pool.slot b.slot = some x) (hg : x.content = .shot g rule) (e : Evaluator) :
    s.completeShot b e =
      (s.couple b.probe (couplingHit e.results) g.stepNo).withHub
        (s.shotHub (s.couple b.probe (couplingHit e.results) g.stepNo) b e x g rule) := by
  unfold State.completeShot State.shotHub
  rw [hx]
  dsimp only
  rw [hg]
  dsimp only
  split <;> rfl

/-- The window end of a LISTENING channel up to its settle end (R89, R109). -/
theorem State.windowEnd_eq {s : State} {c : Chan} {b : Binding} {n : Nat} (hp : s.chans[c].phase = .listening)
    (hb : s.chans[c].binding = some b) (hn : b.window = some n) (first : Sample) (rest : List Sample) :
    let e := s.chans[c].eval.run 0 (streamSamples n first rest)
    let settle := (s.bank.probe b.probe).fields.settle
    let u := (s.setChan c
      { s.chans[c] with
        phase := .settling, binding := some { b with window := none, settle := some settle }, eval := e }).completeShot
      b e
    let v := u.setSeq b.rail { u.seq b.rail with windows := (u.seq b.rail).windows - 1 }
    s.windowEnd c first rest = if settle = 0 then v.settleEnd c else v := by
  unfold State.windowEnd
  rw [hp, hb]
  simp only [hn, Option.getD_some]

end Sys2Proof.Machine

namespace Sys2Proof.Proofs
open Sys2Proof.Machine

/-- Settles O16: the window end is the completion of the shot on the channel that settles, and the count of the windows;
each of these changes what it names. -/
theorem windowEndCompletesTheShot : Obligations.WindowEndCompletesTheShot := by
  intro s c first rest b n x g rule hr hp hb hn hx hg e f settling u changed h t
  have completed : (s.setChan c settling).completeShot b e = u.withHub h :=
    State.completeShot_eq (s := s.setChan c settling) hx hg e
  have seqs : ∀ r, (u.withHub h).seq r = s.seq r := fun r => by simp [u]
  have ended : s.windowEnd c first rest = if f.settle = 0 then t.settleEnd c else t := by
    have e1 := State.windowEnd_eq hp hb hn first rest
    dsimp only at e1
    rw [e1, completed, seqs]
  have low : t.resetLow = false := by simp [t, u, hr]
  have run : exec (.channelWindowEnd c first rest) s = .next (s.windowEnd c first rest).endPool :=
    whileReleased_released hr fun x => (x.windowEnd c first rest).endPool
  refine ⟨fun h0 => ?_, fun h0 => ?_, t.endPool_eq, ?_, fun d hd => ?_, ?_, ?_, ?_, fun p hp => ?_, ?_, ?_, ?_, ?_, ?_⟩
  · rw [run, ended, if_pos h0]
    exact (whileReleased_released low fun x => (x.settleEnd c).endPool).symm
  · rw [run, ended, if_neg h0]
  · simp [t, u]
  · have e1 : t.chans = (s.setChan c settling).chans := by simp [t, u]
    rw [e1, State.chans_setChan_of, if_neg hd]
  · simp [t]
  · simp [t, seqs]
  · have e1 : t.coup = u.coup := by simp [t]
    rw [e1]
    exact State.probes_couple_self _ _ _ _
  · have e1 : t.coup = u.coup := by simp [t]
    rw [e1]
    exact State.probes_couple_other _ _ _ _ _ hp
  · simp [t, u]
  · simp [t, u]
  · simp [t, u]
  · simp [t, u]
  · simp [t, u]

end Sys2Proof.Proofs
end

section
/-! SUPPORT. The rail sequencers: what an omission does to the open skip run, the groups of a walk, and where a walk
leaves its rail. -/

namespace Sys2Proof.Machine

/-! ## Omissions (R78 to R80) -/

/-- An omission of the run's last step or of the one after it joins the run, if the causes agree. -/
theorem SkipRun.join_next {run : SkipRun} {k : StepNo}
    (h : k.toNat = run.last.toNat ∨ k.toNat = run.last.toNat + 1) (cover : Coverage) :
    run.join k cover = (run.cover.join cover).map (fun c => { run with last := k, cover := c }) :=
  if_pos (h.imp_left BitVec.eq_of_toNat_eq)

theorem SkipRun.join_far {run : SkipRun} {k : StepNo}
    (h : ¬ (k.toNat = run.last.toNat ∨ k.toNat = run.last.toNat + 1)) (cover : Coverage) :
    run.join k cover = none :=
  if_neg fun c => h (c.imp_left (congrArg BitVec.toNat))

theorem State.omission_joins {s : State} {r : Rail} {k : StepNo} {cover : Coverage} {run joined : SkipRun}
    (h : (s.seq r).skip = some run) (hj : run.join k cover = some joined) :
    s.omission r k cover = s.setSeq r { s.seq r with skip := some joined } := by
  simp [State.omission, h, hj]

theorem State.omission_opens {s : State} {r : Rail} {k : StepNo} {cover : Coverage} (h : (s.seq r).skip = none) :
    s.omission r k cover = s.setSeq r { s.seq r with skip := some { first := k, last := k, cover := cover } } := by
  simp [State.omission, h, State.closeSkip]

/-- An omission that does not join the open run closes it into its SKIP record and opens a new one. -/
theorem State.omission_closes {s : State} {r : Rail} {k : StepNo} {cover : Coverage} {run : SkipRun}
    (h : (s.seq r).skip = some run) (hj : run.join k cover = none) :
    s.omission r k cover =
      ((s.setSeq r { s.seq r with skip := none }).handRecord (.skip r run)).setSeq r
        { s.seq r with skip := some { first := k, last := k, cover := cover } } := by
  have hb : (s.seq r).skip.bind (fun run => run.join k cover) = none := by rw [h]; exact hj
  have hc : s.closeSkip r = (s.setSeq r { s.seq r with skip := none }).handRecord (.skip r run) := by
    unfold State.closeSkip
    rw [h]
  unfold State.omission
  rw [hb]
  dsimp only
  rw [State.seq_closeSkip, hc]

/-! ## Groups and walks (R10, R11, R67) -/

theorem formGroup_of_next {b : Bank} {i j : BlockIx} (h : (b.block i).next = some j) :
    formGroup b i = if (b.block j).join then ([i, j], (b.block j).next) else ([i], some j) := by
  unfold formGroup
  rw [h]

theorem isDue_iff (b : Bank) (holds : Vector PortSet 24) (n : StepNo) (i : BlockIx) :
    isDue b holds n i = true ↔
      n.toNat % (b.block i).decimation = (b.block i).phase ∧ holds[(b.block i).probe] = 0 := by
  simp [isDue]

theorem findGroup_none (b : Bank) (holds : Vector PortSet 24) (n : StepNo) (fuel : Nat) :
    findGroup b holds n fuel none = ([], none) := by
  cases fuel <;> rfl

/-- A group without a due block is passed over. -/
theorem findGroup_pass {b : Bank} {holds : Vector PortSet 24} {n : StepNo} {i : BlockIx} (fuel : Nat)
    (h : ∀ j ∈ (formGroup b i).1, isDue b holds n j = false) :
    findGroup b holds n (fuel + 1) (some i) = findGroup b holds n fuel (formGroup b i).2 := by
  have none : (formGroup b i).1.filter (isDue b holds n) = [] := by
    simpa [List.filter_eq_nil_iff] using h
  simp [findGroup, none]

/-- A group with a due block is found. -/
theorem findGroup_found {b : Bank} {holds : Vector PortSet 24} {n : StepNo} {i : BlockIx} (fuel : Nat)
    (h : ∃ j ∈ (formGroup b i).1, isDue b holds n j = true) :
    findGroup b holds n (fuel + 1) (some i) =
      ((formGroup b i).1.filter (isDue b holds n), (formGroup b i).2) := by
  unfold findGroup
  split
  · next e =>
    obtain ⟨j, hj, due⟩ := h
    simp [List.filter_eq_nil_iff.1 e j hj] at due
  · next j rest e => rw [e]

/-- A walk that passes over `k` groups goes on from the position after them. -/
theorem findGroup_walk {b : Bank} {holds : Vector PortSet 24} {n : StepNo} (walk : Nat → Link) (k fuel : Nat)
    (h : ∀ m < k, ∃ i, walk m = some i ∧ (formGroup b i).2 = walk (m + 1) ∧
      ∀ j ∈ (formGroup b i).1, isDue b holds n j = false) :
    findGroup b holds n (fuel + k) (walk 0) = findGroup b holds n fuel (walk k) := by
  induction k generalizing walk with
  | zero => rfl
  | succ k ih =>
    obtain ⟨i, here, next, notDue⟩ := h 0 (Nat.zero_lt_succ k)
    rw [here, ← Nat.add_assoc, findGroup_pass _ notDue, next]
    exact ih (fun m => walk (m + 1)) fun m hm => h (m + 1) (Nat.succ_lt_succ hm)

/-- The next group of a step: the walk passes over the groups without a due block, to the chain's end or to the first
group with one (R67). -/
theorem State.nextGroup_walk (s : State) (st : Step) (walk : Nat → Link) (k : Nat) (hk : k < 64)
    (h : ∀ n < k, ∃ i, walk n = some i ∧ (formGroup s.bank i).2 = walk (n + 1) ∧
      ∀ j ∈ (formGroup s.bank i).1, isDue s.bank s.run.holds st.no j = false) :
    (walk k = none → s.nextGroup st (walk 0) = ([], none)) ∧
    ∀ i, walk k = some i → (∃ j ∈ (formGroup s.bank i).1, isDue s.bank s.run.holds st.no j = true) →
      s.nextGroup st (walk 0) =
        ((formGroup s.bank i).1.filter (isDue s.bank s.run.holds st.no), (formGroup s.bank i).2) := by
  obtain ⟨fuel, bound⟩ : ∃ fuel, 64 = fuel + 1 + k := ⟨63 - k, by omega⟩
  have reached : s.nextGroup st (walk 0) = findGroup s.bank s.run.holds st.no (fuel + 1) (walk k) := by
    rw [State.nextGroup, bound, findGroup_walk walk k (fuel + 1) h]
  refine ⟨fun hn => ?_, fun i hi due => ?_⟩
  · rw [reached, hn, findGroup_none]
  · rw [reached, hi, findGroup_found _ due]

/-! ## Where a walk leaves its rail (R66, R67, R75) -/

theorem State.enterRequesting_eq (s : State) (r : Rail) (st : Step) (g : List BlockIx × Link) :
    s.enterRequesting r st g = s.asking r st (s.seq r).waiting g := by
  cases r <;> rfl

theorem State.enterWaiting_eq {s : State} {r : Rail} (h : (s.seq r).waiting = none) :
    s.enterWaiting r = s.resting r := by
  unfold State.enterWaiting State.resting
  rw [← h]

/-- Asking replaces what its rail holds of the cycle. -/
theorem State.asking_setSeq (s : State) (r : Rail) (current : Option Step) (walk : Link) (w w' : Option Step) (st : Step)
    (g : List BlockIx × Link) :
    (s.setSeq r { s.seq r with current := current, walk := walk, waiting := w }).asking r st w' g =
      s.asking r st w' g := by
  cases r <;> rfl

theorem State.resting_setSeq (s : State) (r : Rail) (current : Option Step) (walk : Link) (w : Option Step) :
    (s.setSeq r { s.seq r with current := current, walk := walk, waiting := w }).resting r = s.resting r := by
  cases r <;> rfl

/-- A walk that finds a due block leaves its rail asking for the group's channels. -/
theorem State.walkOn_asks {s : State} {r : Rail} {st : Step} (hc : (s.seq r).current = some st)
    (hg : (s.nextGroup st (s.seq r).walk).1 ≠ []) :
    s.walkOn r = s.asking r st (s.seq r).waiting (s.nextGroup st (s.seq r).walk) := by
  unfold State.walkOn
  rw [hc]
  dsimp only
  split
  · next e => rw [e] at hg; exact absurd rfl hg
  · next e => rw [e, State.enterRequesting_eq]

theorem State.walkOn_ends {s : State} {r : Rail} {st : Step} (hc : (s.seq r).current = some st)
    (hg : (s.nextGroup st (s.seq r).walk).1 = []) : s.walkOn r = s.chainEnd r := by
  unfold State.walkOn
  rw [hc]
  dsimp only
  split
  · rfl
  · next e => rw [e] at hg; cases hg

theorem State.chainEnd_rests {s : State} {r : Rail} (hw : (s.seq r).waiting = none) : s.chainEnd r = s.resting r := by
  unfold State.chainEnd
  rw [hw]
  exact State.enterWaiting_eq hw

/-- At the chain's end a pending step begins the next cycle: its walk starts at the chain head. -/
theorem State.chainEnd_next {s : State} {r : Rail} {next : Step} (hw : (s.seq r).waiting = some next) :
    let g := s.nextGroup next (s.bank.head r)
    (g.1 ≠ [] → s.chainEnd r = s.asking r next none g) ∧ (g.1 = [] → s.chainEnd r = s.resting r) := by
  have ends : s.chainEnd r =
      let t := s.setSeq r { s.seq r with waiting := none }
      if (s.nextGroup next (s.bank.head r)).1 = [] then t.enterWaiting r
      else t.enterRequesting r next (s.nextGroup next (s.bank.head r)) := by
    unfold State.chainEnd
    rw [hw]
    dsimp only
    split
    · next e => simp [e]
    · next e => simp [e]
  refine ⟨fun hg => ?_, fun hg => ?_⟩
  · rw [ends]
    dsimp only
    rw [if_neg hg, State.enterRequesting_eq, State.seq_setSeq]
    exact s.asking_setSeq r (s.seq r).current (s.seq r).walk none none next _
  · rw [ends]
    dsimp only
    rw [if_pos hg, State.enterWaiting_eq (by simp)]
    exact s.resting_setSeq r (s.seq r).current (s.seq r).walk none

/-- A WAITING rail without a pending step takes a step: its walk starts at the chain head (R66). -/
theorem State.stepArrives_waiting {s : State} {r : Rail} (st : Step) (h : (s.seq r).state = .waiting)
    (hw : (s.seq r).waiting = none) :
    let g := s.nextGroup st (s.bank.head r)
    (g.1 ≠ [] → s.stepArrives r st = s.asking r st none g) ∧ (g.1 = [] → s.stepArrives r st = s.resting r) := by
  let t := s.setSeq r { s.seq r with current := some st, walk := s.bank.head r }
  have begins : s.stepArrives r st = t.walkOn r := by
    unfold State.stepArrives
    rw [h]
    rfl
  have current : (t.seq r).current = some st := by simp [t]
  have group : t.nextGroup st (t.seq r).walk = s.nextGroup st (s.bank.head r) := by
    simp [t, State.nextGroup_setSeq]
  refine ⟨fun hg => ?_, fun hg => ?_⟩
  · rw [begins, State.walkOn_asks current (by rw [group]; exact hg), group]
    have none : (t.seq r).waiting = none := by simp [t, hw]
    rw [none]
    exact s.asking_setSeq r _ _ (s.seq r).waiting _ st _
  · rw [begins, State.walkOn_ends current (by rw [group]; exact hg), State.chainEnd_rests (by simp [t, hw])]
    exact s.resting_setSeq r _ _ (s.seq r).waiting

/-- A busy rail without a pending step keeps the step as its pending one (R65). -/
theorem State.stepArrives_keeps {s : State} {r : Rail} (st : Step)
    (h : (s.seq r).state = .requesting ∨ (s.seq r).state = .listening) (hw : (s.seq r).waiting = none) :
    s.stepArrives r st = s.setSeq r { s.seq r with waiting := some st } := by
  rcases h with h | h <;> simp [State.stepArrives, h, hw]

/-- A busy rail with a pending step misses the step (R65, R78). -/
theorem State.stepArrives_misses {s : State} {r : Rail} (st : Step) {old : Step}
    (h : (s.seq r).state = .requesting ∨ (s.seq r).state = .listening) (hw : (s.seq r).waiting = some old) :
    s.stepArrives r st = s.omission r st.no .wholeSteps := by
  rcases h with h | h <;> simp [State.stepArrives, h, hw]

end Sys2Proof.Machine

namespace Sys2Proof.Proofs
open Sys2Proof.Machine

/-- Settles O12, from what a step does in each state of the rail, what an omission does to the skip run, how groups are
formed and where a walk ends. -/
theorem stepsAreTakenKeptOrMissed : Obligations.StepsAreTakenKeptOrMissed := by
  refine ⟨fun s r st h => ?_, fun s r st h hw => State.stepArrives_keeps st h hw,
    fun s r st old h hw => State.stepArrives_misses st h hw, fun s r k run h hc hk => ?_,
    fun s r k run x y h hc hk => ?_, fun s r k cover h => State.omission_opens h, fun s r k run cover h hj => ?_,
    fun b i h => ?_, fun b i j h hj => ?_, fun b i j h hj => ?_, isDue_iff, State.nextGroup_walk,
    fun s r st h hw => State.stepArrives_waiting st h hw, fun s r st hc => ?_⟩
  · simp [State.stepArrives, h]
  · exact State.omission_joins h (by rw [SkipRun.join_next hk, hc]; simp [Coverage.join, ← hc])
  · exact State.omission_joins h (by rw [SkipRun.join_next hk, hc]; rfl)
  · refine State.omission_closes h ?_
    by_cases hk : k.toNat = run.last.toNat ∨ k.toNat = run.last.toNat + 1
    · rw [SkipRun.join_next hk, hj.resolve_left (not_not_intro hk)]; rfl
    · exact SkipRun.join_far hk cover
  · simp [formGroup, h]
  · simp [formGroup_of_next h, hj]
  · simp [formGroup_of_next h, hj]
  · refine ⟨fun hg => State.walkOn_asks hc hg, fun hg hw => ?_, fun next hg hw => ?_⟩
    · rw [State.walkOn_ends hc hg, State.chainEnd_rests hw]
    · rw [State.walkOn_ends hc hg]
      exact State.chainEnd_next hw

end Sys2Proof.Proofs
end

section
/-! SUPPORT. The values of answers and the characters of frames: the reading requests, numbers and forms as bytes, and
the two checks byte by byte. -/

namespace Sys2Proof.Machine

/-! ## The reading requests (R35, R172, R173) -/

/-- READ PLAN ENTRY with its fields in range answers the item of the bank its role names and changes nothing (R35). -/
theorem State.readEntry_item {s : State} {p : Port} (h : s.takesOn p) (tag : Byte) {role item index : Byte}
    (ok : firstBad (readChecks role item index) = none) :
    ∃ t : State, exec (.readPlanEntry p tag role item index) s = .next t ∧
      s.answeredBy p (.response tag 0x09 (.done (.planEntry (roleOf role)
        ((s.plan.readBank (roleOf role)).item item index) s.plan.activeIx s.plan.epoch s.plan.commit))) t := by
  refine State.request_unchanged h tag 0x09 ?_
  unfold State.readEntry
  rw [ok]
  rfl

theorem PlanStore.readBank_roleOf (x : PlanStore) (role : Byte) :
    x.readBank (roleOf role) =
      if role.toNat = 0 ∨ x.commit = .copying then x.activeBank else x.shadowBank := by
  unfold roleOf PlanStore.readBank
  by_cases h : role.toNat = 0
  · simp [h]
  · simp [h]

@[simp] theorem probeOf_ofNat (i : ProbeNo) : probeOf (BitVec.ofNat 8 i.val) = i := by
  have := i.isLt
  apply Fin.ext
  simp only [probeOf, BitVec.toNat_ofNat, Fin.val_ofNat]
  omega

@[simp] theorem blockIxOf_ofNat (i : BlockIx) : blockIxOf (BitVec.ofNat 8 (i.val + 1)) = i := by
  have := i.isLt
  apply Fin.ext
  simp only [blockIxOf, BitVec.toNat_ofNat, Fin.val_ofNat]
  omega

theorem Bank.item_settings (b : Bank) : b.item 0 0 = .settings b.settings := rfl

theorem Bank.item_probe (b : Bank) (i : ProbeNo) : b.item 1 (BitVec.ofNat 8 i.val) = .probe i (b.probe i) := by
  simp [Bank.item]

theorem Bank.item_block (b : Bank) (i : BlockIx) :
    b.item 2 (BitVec.ofNat 8 (i.val + 1)) = .block i (b.block i) := by
  simp [Bank.item]

/-! ## Numbers as bytes -/

@[simp] theorem length_leBytes (n x : Nat) : (leBytes n x).length = n := by
  induction n generalizing x with
  | zero => rfl
  | succ n ih => simp [leBytes, ih]

theorem getElem?_leBytes (n x i : Nat) (h : i < n) : (leBytes n x)[i]? = some (BitVec.ofNat 8 (x / 256 ^ i)) := by
  induction n generalizing x i with
  | zero => omega
  | succ n ih =>
    cases i with
    | zero => simp [leBytes]
    | succ i =>
      rw [leBytes, List.getElem?_cons_succ, ih _ i (by omega), Nat.div_div_eq_div_mul, Nat.pow_succ, Nat.mul_comm]

/-! ## The forms of 11.5 -/

theorem length_settingsBytes (x : StepSettings) : (settingsBytes x).length = 10 := by simp [settingsBytes]

theorem length_gateBytes (g : Option Gate) : (gateBytes g).length = 9 := by cases g <;> simp [gateBytes]

/-- The bytes of as many items as a vector holds, each of the same length. -/
theorem length_flatMap_vector {α : Type} {n k : Nat} (v : Vector α n) (f : α → List Byte)
    (h : ∀ x, (f x).length = k) : (v.toList.flatMap f).length = n * k := by
  simp [List.length_flatMap, h, List.map_const']

theorem length_probeBytes (x : ProbeEntry) : (probeBytes x).length = 46 := by
  simp [probeBytes, fieldsBytes, length_flatMap_vector x.gates gateBytes length_gateBytes]

theorem length_blockBytes (x : Block) : (blockBytes x).length = 9 := by simp [blockBytes]

theorem length_blockCanonical (x : Block) : (blockCanonical x).length = 9 := by
  unfold blockCanonical
  split
  · exact length_blockBytes x
  · rfl

/-- The canonical form of a bank has 1690 bytes (R178). -/
theorem length_bankBytes (b : Bank) : (bankBytes b).length = 1690 := by
  simp [bankBytes, length_settingsBytes, length_flatMap_vector b.probes probeBytes length_probeBytes,
    length_flatMap_vector b.blocks blockCanonical length_blockCanonical]

/-! ## The checks byte by byte (R174, R178) -/

theorem crc16_append (bs : List Byte) (b : Byte) :
    crc16 (bs ++ [b]) = (List.range 8).foldl
      (fun c _ => if c.getLsbD 15 then (c <<< 1) ^^^ 0x1021#16 else c <<< 1) (crc16 bs ^^^ (b.setWidth 16 <<< 8)) := by
  simp only [crc16, List.foldl_append]
  rfl

theorem crc32_append (bs : List Byte) (b : Byte) :
    crc32 (bs ++ [b]) = ~~~ ((List.range 8).foldl
      (fun c _ => if c.getLsbD 0 then (c >>> 1) ^^^ 0xEDB88320#32 else c >>> 1) (~~~ crc32 bs ^^^ b.setWidth 32)) := by
  simp only [crc32, List.foldl_append, BitVec.not_not]
  rfl

/-! ## Payloads (11.3, 11.4) -/

theorem Shot.flags_eq (x : Shot) :
    x.flags = BitVec.ofNat 8 ((if x.grant.joined then 1 else 0) + (if x.grant.snapshot then 2 else 0) +
      (if x.grant.dropped then 4 else 0) + (if x.alarmed then 8 else 0) + (if x.saturated then 16 else 0)) := by
  have weight : ∀ (k : Nat) (b : Bool), k * b.toNat = if b then k else 0 := fun k b => by cases b <;> simp
  have one : ∀ b : Bool, b.toNat = if b then 1 else 0 := fun b => by cases b <;> rfl
  simp only [Shot.flags, weight, one x.grant.joined]

theorem DoneData.bytes_planEntry (role : BankRole) (item : PlanItem) (ix : Fin 2) (epoch : BitVec 16)
    (commit : CommitState) :
    ([0, 0] : List Byte) ++ (DoneData.planEntry role item ix epoch commit).bytes =
      [0, 0, role.code] ++
        (match item with
          | .settings _ => [0, 0]
          | .probe i _ => [1, BitVec.ofNat 8 i.val]
          | .block i _ => [2, BitVec.ofNat 8 (i.val + 1)] : List Byte) ++
        [BitVec.ofNat 8 ix.val] ++ leBytes 2 epoch.toNat ++ [commit.code] ++
        (match item with
          | .settings x => settingsBytes x
          | .probe _ x => probeBytes x
          | .block _ x => blockBytes x) := by
  cases item <;> rfl

theorem DoneData.bytes_status (x : Status) :
    ([0, 0] : List Byte) ++ (DoneData.status x).bytes =
      [0, 0, x.runState.code] ++ leBytes 2 x.runNumber.toNat ++ leBytes 4 x.stepNo.toNat ++
        leBytes 4 x.position.toNat ++ [flagByte x.doubtful] ++ leBytes 4 x.speed ++ [x.direction.code] ++
        leBytes 6 (BitVec.ofInt 48 x.lag).toNat ++
        [(match x.holder with | some q => BitVec.ofNat 8 q.val | none => 255 : Byte), x.commit.code,
          BitVec.ofNat 8 x.activeIx.val] ++
        leBytes 2 x.epoch.toNat ++ leBytes 4 x.signature.toNat ++ leBytes 2 x.freeSlots ++ leBytes 1 x.freePages ++
        leBytes 1 x.waiting ++ leBytes 2 x.depth ++ [flagByte x.gapOpen] ++
        x.holds.toList.map (fun h => h.setWidth 8) ++ x.coupling.toList.map CouplingState.code := by
  have holder : optionCode (x.holder.map Fin.val) =
      (match x.holder with | some q => BitVec.ofNat 8 q.val | none => 255 : Byte) := by
    cases x.holder <;> rfl
  simp only [DoneData.bytes, Status.bytes, holder, List.append_assoc, List.cons_append, List.nil_append]

/-- The payload of a REFUSED answer that names a fault of the commit check: its kind and its entry, 255 for what is absent
(11.3, R176). -/
theorem Reason.data_invalid (f : CommitFault) :
    (Reason.invalid f).data =
      [f.kind.code, (match f.rail with | some .a => 0 | some .b => 1 | none => 255 : Byte),
        (match f.block with | some i => BitVec.ofNat 8 (i.val + 1) | none => 255 : Byte),
        (match f.probe with | some i => BitVec.ofNat 8 i.val | none => 255 : Byte),
        (match f.place with | some i => BitVec.ofNat 8 i.val | none => 255 : Byte)] := by
  obtain ⟨kind, rail, block, probe, place⟩ := f
  have rails : optionCode (rail.map Rail.code) =
      (match rail with | some .a => 0 | some .b => 1 | none => 255 : Byte) := by
    rcases rail with _ | _ | _ <;> rfl
  have blocks : optionCode (block.map blockNumber) =
      (match block with | some i => BitVec.ofNat 8 (i.val + 1) | none => 255 : Byte) := by
    cases block <;> rfl
  have probes : optionCode (probe.map Fin.val) =
      (match probe with | some i => BitVec.ofNat 8 i.val | none => 255 : Byte) := by
    cases probe <;> rfl
  have places : optionCode (place.map Fin.val) =
      (match place with | some i => BitVec.ofNat 8 i.val | none => 255 : Byte) := by
    cases place <;> rfl
  simp only [Reason.data, rails, blocks, probes, places]

/-- The fields of a SHOT record (11.4). -/
theorem Shot.bytes_eq (y : Shot) (x : Option (List Sample)) :
    y.bytes x =
      leBytes 4 y.grant.stepNo.toNat ++ leBytes 4 y.grant.stepPos.toNat ++ leBytes 4 y.grant.firePos.toNat ++
        [(match y.grant.rail with | .a => 0 | .b => 1 : Byte), BitVec.ofNat 8 y.grant.probe.val,
          BitVec.ofNat 8 (y.grant.block.val + 1),
          BitVec.ofNat 8 ((if y.grant.joined then 1 else 0) + (if y.grant.snapshot then 2 else 0) +
            (if y.grant.dropped then 4 else 0) + (if y.alarmed then 8 else 0) +
            (if y.saturated then 16 else 0)),
          y.coupling.code, BitVec.ofNat 8 y.gates.length] ++
        y.gates.flatMap (fun g => [BitVec.ofNat 8 g.place.val, g.kind.code, g.status.code] ++
          leBytes 2 g.peak ++ leBytes 2 g.time) ++
        (match x with
          | none => [0, 0]
          | some vs => leBytes 2 vs.length ++ vs.flatMap (fun v => leBytes 2 v.val)) := by
  have rail : BitVec.ofNat 8 y.grant.rail.code = (match y.grant.rail with | .a => 0 | .b => 1 : Byte) := by
    cases y.grant.rail <;> rfl
  have excerpt : excerptBytes x =
      (match x with
        | none => [0, 0]
        | some vs => leBytes 2 vs.length ++ vs.flatMap (fun v => leBytes 2 v.val)) := by
    cases x <;> rfl
  unfold Shot.bytes
  rw [rail, excerpt, Shot.flags_eq]
  rfl

/-- The gate places of a probe entry (11.5). -/
theorem gateBytes_eq :
    gateBytes = fun g =>
      match g with
      | none => ([0, 0, 0, 0, 0, 0, 0, 0, 0] : List Byte)
      | some g => [1, g.kind.code, (match g.origin with | .pulse => 0 | .interface => 1 : Byte)] ++ leBytes 2 g.start ++
          leBytes 2 g.width ++ leBytes 2 g.threshold := by
  funext g
  rcases g with _ | ⟨_, origin, _, _, _⟩
  · rfl
  · cases origin <;> rfl

end Sys2Proof.Machine

namespace Sys2Proof.Proofs
open Sys2Proof.Machine

/-- Settles O35: the reading requests by their rules, the frames and codes by the tables of chapter 11, case by case, and
the checks byte by byte. -/
theorem answersCarryTheirValues : Obligations.AnswersCarryTheirValues := by
  refine ⟨fun s p tag h => State.request_unchanged h tag 0x01 rfl, fun s p tag h => ?_, fun s p tag role h hr => ?_,
    fun s p tag role item index n h hn => ?_, fun s p => rfl, fun n x => ⟨length_leBytes n x, getElem?_leBytes n x⟩,
    fun f => rfl, ⟨rfl, crc16_append⟩, fun tag kind r => ⟨rfl, rfl, ?_⟩, fun tag seq r x => ⟨rfl, rfl, ?_⟩,
    fun tag g => ⟨rfl, rfl, rfl⟩, fun tag entries depth gapOpen => ⟨rfl, rfl, rfl⟩, ⟨rfl, rfl, rfl, rfl⟩,
    ⟨rfl, rfl, rfl⟩, ⟨rfl, rfl, rfl⟩, ⟨rfl, rfl, rfl⟩, ⟨rfl, rfl, rfl, rfl⟩, ⟨rfl, rfl, rfl⟩, ⟨rfl, rfl, rfl⟩, rfl,
    fun x => ?_, fun x => ?_, fun x => ?_, ⟨rfl, fun i => rfl⟩, fun b => ⟨rfl, length_bankBytes b⟩, by decide, rfl,
    crc32_append⟩
  · refine State.request_unchanged h tag 0x02 ?_
    simp only [State.statusOf, State.hub_withHub, Hub.dist_setCtl']
    rfl
  · intro who b
    have answer := fun item index => State.readEntry_item h tag (role := role) (item := item) (index := index)
    rw [PlanStore.readBank_roleOf] at answer
    refine ⟨answer 0 0 ((firstBad_eq_none_iff _).2 (by simp [readChecks_eq, hr])), fun i => ?_, fun i => ?_⟩
    · have ok : firstBad (readChecks role 1 (BitVec.ofNat 8 i.val)) = none :=
        (firstBad_eq_none_iff _).2 (by have := i.isLt; simp [readChecks_eq, hr]; omega)
      have e := answer 1 (BitVec.ofNat 8 i.val) ok
      rw [Bank.item_probe] at e
      exact e
    · have ok : firstBad (readChecks role 2 (BitVec.ofNat 8 (i.val + 1))) = none :=
        (firstBad_eq_none_iff _).2 (by have := i.isLt; simp [readChecks_eq, hr]; omega)
      have e := answer 2 (BitVec.ofNat 8 (i.val + 1)) ok
      rw [Bank.item_block] at e
      exact e
  · rw [← readChecks_eq, ← firstBad_eq_some_iff] at hn
    refine State.request_unchanged h tag 0x09 ?_
    unfold State.readEntry
    rw [hn]
  · cases r with
    | done d =>
      cases d with
      | nothing => rfl
      | runNumber n => rfl
      | planEntry role item ix epoch commit =>
        exact congrArg (fun data => [kind] ++ data) (DoneData.bytes_planEntry role item ix epoch commit)
      | identity p => rfl
      | status x =>
        exact congrArg (fun data => [kind] ++ data) (DoneData.bytes_status x)
    | pending f => rfl
    | refused r =>
      cases r with
      | invalid f =>
        exact congrArg (fun data => [kind] ++ ([2, 4] ++ data)) (Reason.data_invalid f)
      | notHolder => rfl
      | heldBy q => rfl
      | busy => rfl
      | runActive => rfl
      | noRun => rfl
      | range n => rfl
      | notHeld => rfl
      | unknownRequest => rfl
      | frameError => rfl
  · obtain ⟨run, epoch, position, doubtful, body⟩ := r
    cases body with
    | shot y =>
      exact congrArg (fun data => leBytes 4 seq.toNat ++ leBytes 2 run.toNat ++ leBytes 2 epoch.toNat ++ [0] ++
        leBytes 4 position.toNat ++ [flagByte doubtful] ++ data) (Shot.bytes_eq y x)
    | skip rail span =>
      obtain ⟨first, last, cover⟩ := span
      cases rail <;> cases cover <;> rfl
    | mark m action n => cases m <;> cases action <;> rfl
    | coupling p new n => rfl
    | run event label last => cases event <;> rfl
    | plan epoch signature ix port => rfl
    | hold p change port => cases change <;> rfl
    | odometer n => rfl
    | noticesLost n => rfl
  · obtain ⟨source, pitch, period, priority, headA, headB⟩ := x
    cases source <;> cases priority <;> rfl
  · exact congrArg (fun form => fieldsBytes x.fields ++ x.gates.toList.flatMap form) gateBytes_eq
  · obtain ⟨inUse, probe, decimation, phase, join, report, interval, excerptLen, next⟩ := x
    cases report <;> cases excerptLen <;> rfl

end Sys2Proof.Proofs
end

section
/-! SUPPORT. The commit check, phase by phase: the first fault of the gate places, of the blocks and of the walk of a
chain, and what a chain is that a walk has reached the end of. -/

namespace Sys2Proof.Machine

/-! ## Gate places (R18) -/

theorem places_eq : ([0, 1, 2, 3] : List Place) = List.finRange 4 := by decide

theorem couplingBefore_iff (e : ProbeEntry) (i : Place) :
    couplingBefore e i = true ↔ ∃ j g, j < i ∧ e.gates[j] = some g ∧ g.kind = .coupling := by
  unfold couplingBefore
  rw [places_eq]
  simp only [List.any_eq_true, List.mem_finRange, true_and, Bool.and_eq_true, decide_eq_true_eq]
  refine exists_congr fun j => ?_
  cases h : e.gates[j] with
  | none => simp
  | some g => simp

theorem couplingBefore_eq_false_iff (e : ProbeEntry) (i : Place) :
    couplingBefore e i = false ↔ ∀ j, j < i → ∀ g, e.gates[j] = some g → g.kind ≠ .coupling := by
  rw [← Bool.not_eq_true, couplingBefore_iff]
  push Not
  exact ⟨fun h j hj g hg => h j g hj hg, fun h j g hj hg => h j hj g hg⟩

/-- The coupling gate in a place: the gate there, if it is one, with its place. -/
def couplingGateAt (e : ProbeEntry) (i : Place) : Option (Place × Gate) :=
  match e.gates[i] with
  | some g => if g.kind = .coupling then some (i, g) else none
  | none => none

theorem couplingGateAt_eq_some_iff (e : ProbeEntry) (i j : Place) (c : Gate) :
    couplingGateAt e i = some (j, c) ↔ i = j ∧ e.gates[i] = some c ∧ c.kind = .coupling := by
  unfold couplingGateAt
  cases e.gates[i] with
  | none => simp
  | some g =>
    simp only [Option.some.injEq]
    split
    · next h =>
      simp only [Option.some.injEq, Prod.mk.injEq]
      constructor
      · rintro ⟨rfl, rfl⟩; exact ⟨rfl, rfl, h⟩
      · rintro ⟨rfl, rfl, _⟩; exact ⟨rfl, rfl⟩
    · next h =>
      simp only [reduceCtorEq, false_iff]
      rintro ⟨-, rfl, hc⟩
      exact h hc

theorem couplingGateAt_eq_none_iff (e : ProbeEntry) (i : Place) :
    couplingGateAt e i = none ↔ ∀ g, e.gates[i] = some g → g.kind ≠ .coupling := by
  unfold couplingGateAt
  cases e.gates[i] with
  | none => simp
  | some g => simp

/-- The coupling gate of a probe entry is its first COUPLING gate (R18). -/
theorem couplingGateOf_iff (e : ProbeEntry) (j : Place) (c : Gate) :
    couplingGateOf e = some (j, c) ↔ e.gates[j] = some c ∧ c.kind = .coupling ∧ couplingBefore e j = false := by
  have search : couplingGateOf e = Fin.findSome? (couplingGateAt e) := by
    rw [Fin.findSome?_eq_findSome?_finRange, ← places_eq]
    rfl
  rw [search, Fin.findSome?_eq_some_iff, couplingBefore_eq_false_iff]
  simp only [couplingGateAt_eq_some_iff, couplingGateAt_eq_none_iff]
  constructor
  · rintro ⟨i, ⟨rfl, gate, kind⟩, below⟩
    exact ⟨gate, kind, below⟩
  · rintro ⟨gate, kind, below⟩
    exact ⟨j, ⟨rfl, gate, kind⟩, below⟩

/-- A gate that is neither a second COUPLING gate nor one of INTERFACE origin fails by its window alone (R18, c to e). -/
theorem gateFault_window {e : ProbeEntry} {i : Place} {g : Gate}
    (notSecond : ¬ (g.kind = .coupling ∧ couplingBefore e i = true))
    (notWrong : ¬ (g.kind = .coupling ∧ g.origin ≠ .pulse)) :
    gateFault e i g =
      match g.origin with
      | .pulse => if g.start + g.width ≤ e.fields.window then none else some .gateBeyondWindow
      | .interface =>
        match couplingGateOf e with
        | none => some .interfaceWithoutCoupling
        | some (_, c) =>
          if c.start + c.width + g.start + g.width ≤ e.fields.window then none else some .gateBeyondWindow :=
  (if_neg notSecond).trans (if_neg notWrong)

/-! ## Phases 2 and 3 (R17) -/

/-- The entry that a fault of a gate place names. -/
def placeFault (p : ProbeNo) (i : Place) (k : FaultKind) : CommitFault :=
  { kind := k, rail := none, block := none, probe := some p, place := some i }

theorem probeFault_eq (b : Bank) (p : ProbeNo) :
    probeFault p (b.probe p) = Fin.findSome? fun i => (b.gateFaultAt p i).map (placeFault p i) := by
  rw [Fin.findSome?_eq_findSome?_finRange, ← places_eq]
  unfold probeFault
  congr 1
  funext i
  unfold Bank.gateFaultAt
  cases (b.probe p).gates[i] with
  | none => rfl
  | some g =>
    cases h : gateFault (b.probe p) i g with
    | none => simp [h]
    | some k => simp [h, placeFault]

theorem probesFault_eq (b : Bank) : probesFault b = Fin.findSome? fun p => probeFault p (b.probe p) :=
  (Fin.findSome?_eq_findSome?_finRange _).symm

theorem probeFault_none_iff (b : Bank) (p : ProbeNo) :
    probeFault p (b.probe p) = none ↔ ∀ i, b.gateFaultAt p i = none := by
  simp [probeFault_eq]

theorem probesFault_none_iff (b : Bank) : probesFault b = none ↔ ∀ p i, b.gateFaultAt p i = none := by
  simp [probesFault_eq, probeFault_none_iff]

/-- The first gate place that fails R18, by probe and place, is the one reported. -/
theorem probesFault_first {b : Bank} {p : ProbeNo} {i : Place} {k : FaultKind} (h : b.gateFaultAt p i = some k)
    (first : ∀ p' i', p' < p ∨ (p' = p ∧ i' < i) → b.gateFaultAt p' i' = none) :
    probesFault b = some (placeFault p i k) := by
  rw [probesFault_eq, Fin.findSome?_eq_some_iff]
  refine ⟨p, ?_, fun p' hp => (probeFault_none_iff b p').2 fun i' => first p' i' (.inl hp)⟩
  rw [probeFault_eq, Fin.findSome?_eq_some_iff]
  exact ⟨i, by rw [h]; rfl, fun i' hi => by rw [first p i' (.inr ⟨rfl, hi⟩)]; rfl⟩

/-- The fault of a block's phase, if it has one (R20). -/
def phaseFault (b : Bank) (i : BlockIx) : Option CommitFault :=
  if (b.block i).inUse ∧ (b.block i).decimation ≤ (b.block i).phase then
    some { kind := .phaseRange, rail := none, block := some i, probe := some (b.block i).probe, place := none }
  else none

theorem blocksFault_eq (b : Bank) : blocksFault b = Fin.findSome? (phaseFault b) :=
  (Fin.findSome?_eq_findSome?_finRange _).symm

theorem phaseFault_none_iff (b : Bank) (i : BlockIx) :
    phaseFault b i = none ↔ ((b.block i).inUse = true → (b.block i).phase < (b.block i).decimation) := by
  simp [phaseFault]

theorem blocksFault_none_iff (b : Bank) :
    blocksFault b = none ↔ ∀ i : BlockIx, (b.block i).inUse = true → (b.block i).phase < (b.block i).decimation := by
  simp [blocksFault_eq, phaseFault_none_iff]

/-- The first block in use whose phase is not below its decimation is the one reported. -/
theorem blocksFault_first {b : Bank} {i : BlockIx} (used : (b.block i).inUse = true)
    (out : (b.block i).decimation ≤ (b.block i).phase)
    (first : ∀ j, j < i → (b.block j).inUse = true → (b.block j).phase < (b.block j).decimation) :
    blocksFault b =
      some { kind := .phaseRange, rail := none, block := some i, probe := some (b.block i).probe, place := none } := by
  rw [blocksFault_eq, Fin.findSome?_eq_some_iff]
  exact ⟨i, by simp [phaseFault, used, out], fun j hj => (phaseFault_none_iff b j).2 (first j hj)⟩

theorem entriesPass_iff (b : Bank) : b.entriesPass ↔ probesFault b = none ∧ blocksFault b = none := by
  rw [probesFault_none_iff, blocksFault_none_iff]
  exact Iff.rfl

/-! ## The walk of a chain (R19) -/

theorem blockFault_eq (b : Bank) (r : Rail) (taken before : List BlockIx) (i : BlockIx) :
    blockFault b r taken before i =
      if (b.block i).inUse = false then some .blockNotInUse
      else if i ∈ before then some .chainLoop
      else if 16 ≤ before.length then some .chainTooLong
      else if i ∈ taken then some .chainShared
      else if railOf (b.block i).probe ≠ r then some .wrongRail
      else if (b.block i).join = true ∧ before = [] then some .joinAtHead
      else if (b.block i).join = true ∧ before.head?.map (fun j => (b.block j).join) = some true then some .joinChain
      else if (b.block i).join = true ∧ before.head?.map (fun j => (b.block j).probe) = some (b.block i).probe then
        some .joinSameProbe
      else none := by
  unfold blockFault
  cases before with
  | nil => cases (b.block i).join <;> simp [Config.chainLength]
  | cons j rest => cases (b.block i).join <;> simp [Config.chainLength]

/-- What holds of a block that a walk reaches without a fault: in use, new to both chains, within the chain's length and of
the rail, and joined at most to a block without join of another probe. -/
structure Reached (b : Bank) (r : Rail) (taken before : List BlockIx) (i : BlockIx) : Prop where
  inUse : (b.block i).inUse = true
  fresh : i ∉ before
  short : before.length < 16
  free : i ∉ taken
  rail : railOf (b.block i).probe = r
  joined : (b.block i).join = true →
    ∃ j rest, before = j :: rest ∧ (b.block j).join = false ∧ (b.block j).probe ≠ (b.block i).probe

theorem reached_of_blockFault {b : Bank} {r : Rail} {taken before : List BlockIx} {i : BlockIx}
    (h : blockFault b r taken before i = none) : Reached b r taken before i := by
  have passed : ∀ (p : Prop) [Decidable p] (k : FaultKind) (o : Option FaultKind),
      (if p then some k else o) = none ↔ ¬ p ∧ o = none := fun p _ k o => by split <;> simp_all
  rw [blockFault_eq] at h
  simp only [passed] at h
  obtain ⟨used, fresh, short, free, rail, notHead, notChain, notSame, -⟩ := h
  refine ⟨by simpa using used, fresh, by omega, free, by simpa using rail, fun join => ?_⟩
  cases before with
  | nil => exact absurd ⟨join, rfl⟩ notHead
  | cons j rest => exact ⟨j, rest, rfl, by simpa [join] using notChain, by simpa [join] using notSame⟩

/-! ## Walks -/

theorem Bank.length_walked {b : Bank} {r : Rail} {taken l : List BlockIx} (h : b.walked r taken l) : l.length ≤ 16 := by
  cases l with
  | nil => exact Nat.zero_le _
  | cons i before => exact (reached_of_blockFault h.2.2).short

/-- The walk of a chain phase, taken up where it has reached the blocks listed. -/
theorem chainPhase_of_walked {b : Bank} {r : Rail} {taken before : List BlockIx} (h : b.walked r taken before) :
    chainPhase b r taken = walkChain b r taken (17 - before.length) before (b.linkAfter r before) := by
  induction before with
  | nil => rfl
  | cons i before ih =>
    obtain ⟨walked, link, ok⟩ := h
    have short := (reached_of_blockFault ok).short
    obtain ⟨fuel, hf⟩ : ∃ fuel, 17 - before.length = fuel + 1 := ⟨16 - before.length, by omega⟩
    have hf' : 17 - (i :: before).length = fuel := by simp only [List.length_cons]; omega
    rw [ih walked, link, hf, hf', walkChain, ok]
    rfl

/-- A walk that has reached the end of its chain gives the chain. -/
theorem chainPhase_ok {b : Bank} {r : Rail} {taken chain : List BlockIx} (h : b.walked r taken chain)
    (ended : b.linkAfter r chain = none) : chainPhase b r taken = .ok chain := by
  rw [chainPhase_of_walked h, ended, walkChain]

/-- The first fault that a walk meets is the one reported. -/
theorem chainPhase_error {b : Bank} {r : Rail} {taken before : List BlockIx} {i : BlockIx} {k : FaultKind}
    (h : b.walked r taken before) (link : b.linkAfter r before = some i)
    (fault : blockFault b r taken before i = some k) : chainPhase b r taken = .error (chainFault b r i k) := by
  have short := Bank.length_walked h
  obtain ⟨fuel, hf⟩ : ∃ fuel, 17 - before.length = fuel + 1 := ⟨16 - before.length, by omega⟩
  rw [chainPhase_of_walked h, link, hf, walkChain, fault]

/-- A chain phase without a fault has walked its chain to the end. -/
theorem walked_of_chainPhase {b : Bank} {r : Rail} {taken chain : List BlockIx} (h : chainPhase b r taken = .ok chain) :
    b.walked r taken chain ∧ b.linkAfter r chain = none := by
  have main : ∀ (fuel : Nat) (before : List BlockIx), before.length + fuel = 17 → b.walked r taken before →
      walkChain b r taken fuel before (b.linkAfter r before) = .ok chain →
      b.walked r taken chain ∧ b.linkAfter r chain = none := by
    intro fuel
    induction fuel with
    | zero => intro before hl w _; have := Bank.length_walked w; omega
    | succ fuel ih =>
      intro before hl w e
      cases link : b.linkAfter r before with
      | none =>
        rw [link, walkChain] at e
        cases e
        exact ⟨w, link⟩
      | some i =>
        rw [link, walkChain] at e
        cases fault : blockFault b r taken before i with
        | some k => rw [fault] at e; cases e
        | none =>
          rw [fault] at e
          exact ih (i :: before) (by simp only [List.length_cons]; omega) ⟨w, link, fault⟩ e
  exact main 17 [] rfl trivial h

/-! ## The check as a whole -/

/-- A bank without a fault passes with its figures (R17, R21, R22). -/
theorem checkBank_pass {b : Bank} (h : b.entriesPass) {chainA chainB : List BlockIx}
    (hA : chainPhase b .a [] = .ok chainA) (hB : chainPhase b .b chainA = .ok chainB) :
    checkBank b =
      .ok { cycleA := cycleTime b chainA.reverse, cycleB := cycleTime b chainB.reverse, signature := signatureOf b } := by
  obtain ⟨probes, blocks⟩ := (entriesPass_iff b).1 h
  simp only [checkBank, probes, blocks, hA, hB]

/-- The fault of chain A is reported where the entries have none (R17). -/
theorem checkBank_faultA {b : Bank} (h : b.entriesPass) {f : CommitFault} (hA : chainPhase b .a [] = .error f) :
    checkBank b = .error f := by
  obtain ⟨probes, blocks⟩ := (entriesPass_iff b).1 h
  simp only [checkBank, probes, blocks, hA]

/-- The fault of chain B is reported where the entries and chain A have none (R17). -/
theorem checkBank_faultB {b : Bank} (h : b.entriesPass) {chainA : List BlockIx} {f : CommitFault}
    (hA : chainPhase b .a [] = .ok chainA) (hB : chainPhase b .b chainA = .error f) : checkBank b = .error f := by
  obtain ⟨probes, blocks⟩ := (entriesPass_iff b).1 h
  simp only [checkBank, probes, blocks, hA, hB]

/-- What a bank that passes has: no fault among its entries, and both chains walked to their ends (R17). -/
theorem checkBank_ok {b : Bank} {figs : Figures} (h : checkBank b = .ok figs) :
    b.entriesPass ∧ ∃ chainA chainB, (b.walked .a [] chainA ∧ b.linkAfter .a chainA = none) ∧
      (b.walked .b chainA chainB ∧ b.linkAfter .b chainB = none) ∧
      figs = { cycleA := cycleTime b chainA.reverse, cycleB := cycleTime b chainB.reverse,
               signature := signatureOf b } := by
  unfold checkBank at h
  split at h
  · cases h
  · next probes =>
    split at h
    · cases h
    · next blocks =>
      split at h
      · cases h
      · next chainA hA =>
        split at h
        · cases h
        · next chainB hB =>
          cases h
          exact ⟨(entriesPass_iff b).2 ⟨probes, blocks⟩, chainA, chainB, walked_of_chainPhase hA,
            walked_of_chainPhase hB, rfl⟩

/-! ## Cycle times (R21) -/

theorem cycleTime_join {b : Bank} {i j : BlockIx} {rest : List BlockIx} (h : (b.block j).join = true) :
    cycleTime b (i :: j :: rest) = max (probeTime b i) (probeTime b j) + cycleTime b rest := by
  rw [cycleTime, if_pos h]

theorem cycleTime_single {b : Bank} {i j : BlockIx} {rest : List BlockIx} (h : (b.block j).join = false) :
    cycleTime b (i :: j :: rest) = probeTime b i + cycleTime b (j :: rest) := by
  rw [cycleTime, if_neg (by simp [h])]

/-- A bank within its ranges takes at most 450 µs for each block of a chain. -/
theorem cycleTime_le {b : Bank} (h : b.ranged) (l : List BlockIx) : cycleTime b l ≤ 4500 * l.length := by
  have time : ∀ i, probeTime b i ≤ 4500 := fun i => by
    obtain ⟨-, probes, -⟩ := h
    obtain ⟨⟨-, -, -, ⟨-, window⟩, settle, -⟩, -⟩ := probes (b.block i).probe
    unfold probeTime
    omega
  induction l using cycleTime.induct b with
  | case1 => simp [cycleTime]
  | case2 i => simpa [cycleTime] using time i
  | case3 i j rest join ih =>
    rw [cycleTime_join join]
    have := time i
    have := time j
    simp only [List.length_cons]
    omega
  | case4 i j rest join ih =>
    rw [cycleTime_single (by simpa using join)]
    have := time i
    simp only [List.length_cons] at ih ⊢
    omega

/-! ## A chain walked to its end -/

section chain
variable {b : Bank} {r : Rail} {taken l : List BlockIx}

/-- A walked chain begins at the chain head. -/
theorem Bank.head?_walked (h : b.walked r taken l) : (l.reverse ++ (b.linkAfter r l).toList).head? = b.head r := by
  induction l with
  | nil => cases e : b.head r <;> simp [Bank.linkAfter, e]
  | cons i before ih =>
    obtain ⟨walked, link, -⟩ := h
    have := ih walked
    rw [link] at this
    simpa using this

/-- Each block of a walked chain is followed by its next field. -/
theorem Bank.next_walked (h : b.walked r taken l) {k : Nat} {i : BlockIx} (hk : l.reverse[k]? = some i) :
    (l.reverse ++ (b.linkAfter r l).toList)[k + 1]? = (b.block i).next := by
  induction l generalizing k with
  | nil => simp at hk
  | cons j before ih =>
    obtain ⟨walked, link, -⟩ := h
    have before_next := fun {k} => ih walked (k := k)
    rw [link] at before_next
    rw [List.reverse_cons] at hk ⊢
    obtain lt | rfl | gt := Nat.lt_trichotomy k before.length
    · rw [List.getElem?_append_left (by simpa using lt)] at hk
      rw [List.getElem?_append_left (by simpa using lt)]
      exact before_next hk
    · obtain rfl : j = i := by simpa using hk
      cases e : (b.block j).next <;> simp [Bank.linkAfter, e]
    · rw [List.getElem?_eq_none (by simp; omega)] at hk
      cases hk

/-- The cycle of a walked chain takes at most 7200 µs (R21). -/
theorem Bank.cycleTime_walked (h : b.walked r taken l) (ranged : b.ranged) : cycleTime b l.reverse ≤ 72000 := by
  have time := cycleTime_le ranged l.reverse
  have length := Bank.length_walked h
  rw [List.length_reverse] at time
  omega

/-- Every block of a walked chain was reached without a fault. -/
theorem Bank.reached_walked (h : b.walked r taken l) {i : BlockIx} (hi : i ∈ l) :
    ∃ before, Reached b r taken before i := by
  induction l with
  | nil => cases hi
  | cons j before ih =>
    obtain ⟨walked, -, fault⟩ := h
    obtain rfl | hi := List.mem_cons.1 hi
    · exact ⟨before, reached_of_blockFault fault⟩
    · exact ih walked hi

theorem Bank.nodup_walked (h : b.walked r taken l) : l.Nodup := by
  induction l with
  | nil => exact List.nodup_nil
  | cons i before ih =>
    obtain ⟨walked, -, fault⟩ := h
    exact List.nodup_cons.2 ⟨(reached_of_blockFault fault).fresh, ih walked⟩

/-- The first block of a walked chain has no join (R19, f). -/
theorem Bank.join_head_walked (h : b.walked r taken l) {i : BlockIx} (hi : l.reverse.head? = some i) :
    (b.block i).join = false := by
  induction l with
  | nil => simp at hi
  | cons j before ih =>
    obtain ⟨walked, -, fault⟩ := h
    cases before with
    | nil =>
      obtain rfl : j = i := by simpa using hi
      by_contra join
      obtain ⟨_, _, e, -⟩ := (reached_of_blockFault fault).joined (by simpa using join)
      cases e
    | cons x rest => exact ih walked (by simpa using hi)

/-- A joined block of a walked chain follows one without join and of another probe (R19, g and h). -/
theorem Bank.join_next_walked (h : b.walked r taken l) {k : Nat} {i j : BlockIx} (hi : l.reverse[k]? = some i)
    (hj : l.reverse[k + 1]? = some j) (join : (b.block j).join = true) :
    (b.block i).join = false ∧ (b.block i).probe ≠ (b.block j).probe := by
  induction l with
  | nil => simp at hi
  | cons m before ih =>
    obtain ⟨walked, -, fault⟩ := h
    rw [List.reverse_cons] at hi hj
    obtain lt | last | gt := Nat.lt_trichotomy (k + 1) before.length
    · rw [List.getElem?_append_left (by simp; omega)] at hi hj
      exact ih walked hi hj
    · obtain rfl : m = j := by simpa [last] using hj
      obtain ⟨x, rest, rfl, single, other⟩ := (reached_of_blockFault fault).joined join
      obtain rfl : k = rest.length := by simpa using last
      obtain rfl : x = i := by simpa using hi
      exact ⟨single, other⟩
    · rw [List.getElem?_eq_none (by simp; omega)] at hj
      cases hj

/-- What a chain walked to its end is, in chain order (R19, R20). -/
theorem Bank.chain_walked (h : b.walked r taken l) (ended : b.linkAfter r l = none) (entries : b.entriesPass) :
    l.reverse.length ≤ 16 ∧ l.reverse.Nodup ∧ l.reverse.head? = b.head r ∧
      (∀ i ∈ l.reverse, (b.block i).inUse = true ∧ railOf (b.block i).probe = r ∧
        (b.block i).phase < (b.block i).decimation) ∧
      (∀ i, l.reverse.head? = some i → (b.block i).join = false) ∧
      (∀ (k : Nat) (i : BlockIx), l.reverse[k]? = some i → l.reverse[k + 1]? = (b.block i).next) ∧
      ∀ (k : Nat) (i j : BlockIx), l.reverse[k]? = some i → l.reverse[k + 1]? = some j → (b.block j).join = true →
        (b.block i).join = false ∧ (b.block i).probe ≠ (b.block j).probe := by
  have whole : l.reverse ++ (b.linkAfter r l).toList = l.reverse := by rw [ended]; exact List.append_nil _
  refine ⟨by simpa using Bank.length_walked h, List.nodup_reverse.2 (Bank.nodup_walked h), ?_, fun i hi => ?_,
    fun i hi => Bank.join_head_walked h hi, fun k i hk => ?_, fun k i j hi hj => Bank.join_next_walked h hi hj⟩
  · rw [← Bank.head?_walked h, whole]
  · obtain ⟨before, reached⟩ := Bank.reached_walked h (List.mem_reverse.1 hi)
    exact ⟨reached.inUse, reached.rail, entries.2 i reached.inUse⟩
  · rw [← Bank.next_walked h hk, whole]

end chain

end Sys2Proof.Machine

namespace Sys2Proof.Proofs
open Sys2Proof.Machine

/-- Settles O43, phase by phase: the first fault of a phase is the one reported, and a bank without one has walked both
chains to their ends. -/
theorem commitCheckPassesOrFindsTheFirstFault : Obligations.CommitCheckPassesOrFindsTheFirstFault := by
  refine ⟨fun _ _ _ => rfl, couplingBefore_iff, couplingGateOf_iff, fun e i g => ?_, blockFault_eq,
    fun b p i k h first => ?_, fun b i gates used out first => ?_, fun b r chainA before i k entries hA h link fault => ?_,
    fun b chainA chainB entries hA endA hB endB => ?_, fun b => ?_, fun b figs h => ?_⟩
  · intro second wrong alone beyond beyondCrossing
    refine ⟨fun h => if_pos h, fun h1 h2 => ?_, fun h1 h2 h3 => ?_, fun h1 h2 h3 => ?_, fun h1 h2 h3 h4 h5 => ?_⟩
    · rw [gateFault, if_neg h1, if_pos h2]
    · rw [gateFault_window h1 h2, h3.1, h3.2]
    · rw [gateFault_window h1 h2]
      obtain ⟨origin, past⟩ | ⟨origin, j, x, gate, past⟩ := h3
      · rw [origin]; exact if_neg (by omega)
      · rw [origin, gate]; exact if_neg (by omega)
    · rw [gateFault_window h1 h2]
      cases origin : g.origin with
      | pulse => exact if_pos (Nat.le_of_not_lt fun past => h4 ⟨origin, past⟩)
      | interface =>
        cases gate : couplingGateOf e with
        | none => exact absurd ⟨origin, gate⟩ h3
        | some c => exact if_pos (Nat.le_of_not_lt fun past => h5 ⟨origin, c.1, c.2, gate, past⟩)
  · simp only [checkBank, probesFault_first h first, placeFault]
  · simp only [checkBank, (probesFault_none_iff b).2 gates, blocksFault_first used out first]
  · cases r with
    | a =>
      obtain rfl : chainA = [] := hA
      exact checkBank_faultA entries (chainPhase_error h link fault)
    | b => exact checkBank_faultB entries (chainPhase_ok hA.1 hA.2) (chainPhase_error h link fault)
  · exact checkBank_pass entries (chainPhase_ok hA endA) (chainPhase_ok hB endB)
  · exact ⟨rfl, fun _ => rfl, fun _ _ _ join => cycleTime_join join, fun _ _ _ join => cycleTime_single join⟩
  · obtain ⟨entries, chainA, chainB, ⟨hA, endA⟩, ⟨hB, endB⟩, rfl⟩ := checkBank_ok h
    refine ⟨rfl, fun ranged => ⟨Bank.cycleTime_walked hA ranged, Bank.cycleTime_walked hB ranged⟩, entries,
      chainA.reverse, chainB.reverse, fun r => ?_, fun i hi hj => ?_⟩
    · cases r with
      | a => exact Bank.chain_walked hA endA entries
      | b => exact Bank.chain_walked hB endB entries
    · obtain ⟨before, reached⟩ := Bank.reached_walked hB (List.mem_reverse.1 hj)
      exact reached.free (List.mem_reverse.1 hi)

end Sys2Proof.Proofs
end

section
/-! SUPPORT. What follows a commit leaves two things alone: the odometer, and the controller of a port that holds no
TAKE. -/

namespace Sys2Proof.Machine

/-! ## The odometer through the steps and the swap -/

@[simp] theorem State.odo_handRecord (s : State) (b : Body) : (s.handRecord b).odo = s.odo := rfl
@[simp] theorem State.odo_endPool (s : State) : s.endPool.odo = s.odo := (sameOutside_endPool s).odo
@[simp] theorem State.odo_closeSkip (s : State) (r : Rail) : (s.closeSkip r).odo = s.odo := (sameOutside_closeSkip s r).odo
@[simp] theorem State.odo_stepArrives (s : State) (r : Rail) (st : Step) : (s.stepArrives r st).odo = s.odo :=
  (sameOutside_stepArrives s r st).odo
@[simp] theorem State.odo_pass (s : State) : s.pass.odo = s.odo := (sameOutside_pass s).odo
@[simp] theorem State.odo_turnOff (s : State) : s.turnOff.odo = s.odo := rfl
@[simp] theorem State.odo_enterIdle (s : State) : s.enterIdle.odo = s.odo := rfl
@[simp] theorem State.odo_advanceBoundary (s : State) : s.advanceBoundary.odo = s.odo := rfl

@[simp] theorem State.odo_completeIfDue (s : State) : s.completeIfDue.odo = s.odo := by
  unfold State.completeIfDue
  split
  · simp [State.complete]
  · rfl

@[simp] theorem State.odo_haltAtLimit (s : State) : s.haltAtLimit.odo = s.odo := by
  unfold State.haltAtLimit
  split <;> rfl

@[simp] theorem State.odo_issue (s : State) : s.issue.odo = s.odo := by
  unfold State.issue
  dsimp only
  split <;> simp

@[simp] theorem State.odo_issueReached (n : Nat) (s : State) : (State.issueReached n s).odo = s.odo := by
  induction n generalizing s with
  | zero => rfl
  | succ n ih =>
    unfold State.issueReached
    split
    · simp [ih]
    · rfl

@[simp] theorem State.odo_newPitch (s : State) : s.newPitch.odo = s.odo := by
  unfold State.newPitch
  split <;> rfl

@[simp] theorem State.odo_swapBanks (s : State) (sig : BitVec 32) (p : Port) : (s.swapBanks sig p).odo = s.odo := by
  simp [State.swapBanks, State.clearFired]

@[simp] theorem State.odo_swap (s : State) : s.swap.odo = s.odo := by
  unfold State.swap
  split <;> simp

/-! ## Controllers of ports that hold no TAKE -/

/-- From the hub `h` to the hub `k` the controller of a port that holds no TAKE stays as it is: records reach its queue,
and only a held TAKE is answered upon an arrival (R170). -/
def Hub.KeepsCtl (p : Port) (h k : Hub) : Prop := (h.ctl p).state ≠ .heldTake → k.ctl p = h.ctl p

theorem Hub.KeepsCtl.same {p : Port} {h k : Hub} (e : k.ctl p = h.ctl p) : Hub.KeepsCtl p h k := fun _ => e

theorem Hub.KeepsCtl.refl (p : Port) (h : Hub) : Hub.KeepsCtl p h h := fun _ => rfl

theorem Hub.KeepsCtl.trans {p : Port} {h k l : Hub} (a : Hub.KeepsCtl p h k) (b : Hub.KeepsCtl p k l) :
    Hub.KeepsCtl p h l := fun n => (b (by rw [a n]; exact n)).trans (a n)

/-- The transmit side of one port leaves the controllers of the others alone. -/
theorem Hub.ctl_sendTake_other (h : Hub) {p q : Port} (hq : p ≠ q) (t : TakeJob) : (h.sendTake q t).ctl p = h.ctl p := by
  unfold Hub.sendTake Hub.sendEnd Hub.send
  split
  · simp [Hub.ctl_setCtl, hq]
  · split
    · split <;> simp [Hub.ctl_setCtl, hq]
    · simp [Hub.ctl_setCtl, hq]
    · split <;> simp [Hub.ctl_setCtl, hq]

theorem Hub.ctl_startNext_other (h : Hub) {p q : Port} (hq : p ≠ q) : (h.startNext q).ctl p = h.ctl p := by
  unfold Hub.startNext
  split
  · rfl
  · split
    · simp [Hub.ctl_setCtl, hq]
    · split
      · simp [Hub.ctl_setCtl, hq]
      · split
        · split
          · exact h.ctl_sendTake_other hq _
          · rfl
        · rfl

theorem Hub.keepsCtl_wake (p : Port) (h : Hub) (q : Port) : Hub.KeepsCtl p h (h.wake q) := by
  intro notHeld
  unfold Hub.wake
  split
  · next held =>
    have hq : p ≠ q := fun e => notHeld (e ▸ held.1)
    rw [Hub.ctl_startNext_other _ hq, Hub.ctl_setCtl, if_neg hq]
  · rfl

theorem Hub.keepsCtl_wakes (p : Port) (l : List Port) (h : Hub) : Hub.KeepsCtl p h (l.foldl Hub.wake h) := by
  induction l generalizing h with
  | nil => exact .refl p h
  | cons q l ih => exact (h.keepsCtl_wake p q).trans (ih _)

theorem Hub.ctl_offers (p : Port) (n : Nat) (seq : BitVec 32) (r : Rec) (l : List Port) (acc : Hub × Nat) :
    (l.foldl (Hub.offerTo n seq r) acc).1.ctl p = acc.1.ctl p := by
  induction l generalizing acc with
  | nil => rfl
  | cons q l ih =>
    rw [List.foldl_cons, ih]
    unfold Hub.offerTo
    split <;> simp

theorem Hub.keepsCtl_fanOut (p : Port) (h : Hub) (n : Nat) (r : Rec) : Hub.KeepsCtl p h (h.fanOut n r) := by
  unfold Hub.fanOut
  refine Hub.KeepsCtl.trans (.same ?_) (Hub.keepsCtl_wakes p _ _)
  rw [Hub.ctl_withPool, Hub.ctl_offers, Hub.ctl_withPool]

theorem Hub.keepsCtl_place (p : Port) (h : Hub) (n : Nat) (r : Rec) : Hub.KeepsCtl p h (h.place n r) := by
  unfold Hub.place
  exact Hub.KeepsCtl.trans (.same (by rfl)) (Hub.keepsCtl_fanOut p _ n r)

theorem Hub.keepsCtl_hand (p : Port) (h : Hub) (r : Rec) : Hub.KeepsCtl p h (h.hand r) := by
  unfold Hub.hand
  split
  · exact h.keepsCtl_place p _ r
  · split <;> exact .same rfl

theorem Hub.ctl_claims (p : Port) (i : ProbeNo) (n : Nat) (l : List Port) (h : Hub) :
    (l.foldl (Hub.claimAt i n) h).ctl p = h.ctl p := by
  induction l generalizing h with
  | nil => rfl
  | cons q l ih => rw [List.foldl_cons, ih]; exact Hub.ctl_setDist _ _ _ _

/-! ## The hub through the steps and the swap -/

@[simp] theorem State.hub_enterRequesting (s : State) (r : Rail) (st : Step) (g : List BlockIx × Link) :
    (s.enterRequesting r st g).hub = s.hub := by cases r <;> rfl

@[simp] theorem State.hub_chainEnd (s : State) (r : Rail) : (s.chainEnd r).hub = s.hub := by
  unfold State.chainEnd State.enterWaiting
  split
  · simp
  · dsimp only
    split <;> simp

@[simp] theorem State.hub_walkOn (s : State) (r : Rail) : (s.walkOn r).hub = s.hub := by
  unfold State.walkOn
  split
  · rfl
  · split <;> simp

section keeps
variable (p : Port)

theorem State.keepsCtl_handRecord (s : State) (b : Body) : Hub.KeepsCtl p s.hub (s.handRecord b).hub :=
  s.hub.keepsCtl_hand p _

theorem State.keepsCtl_endPool (s : State) : Hub.KeepsCtl p s.hub s.endPool.hub := by
  unfold State.endPool
  split
  · split
    · exact .refl p _
    · rw [State.hub_withHub]
      exact Hub.KeepsCtl.trans (.same (by rfl)) (Hub.keepsCtl_place p _ _ _)
  · exact .refl p _

theorem State.keepsCtl_closeSkip (s : State) (r : Rail) : Hub.KeepsCtl p s.hub (s.closeSkip r).hub := by
  unfold State.closeSkip
  split
  · exact .refl p _
  · exact Hub.KeepsCtl.trans (.same (by rw [State.hub_setSeq])) (State.keepsCtl_handRecord p _ _)

theorem State.keepsCtl_omission (s : State) (r : Rail) (k : StepNo) (c : Coverage) :
    Hub.KeepsCtl p s.hub (s.omission r k c).hub := by
  unfold State.omission
  split
  · exact .same (by simp)
  · dsimp only
    rw [State.hub_setSeq]
    exact s.keepsCtl_closeSkip p r

theorem State.keepsCtl_stepArrives (s : State) (r : Rail) (st : Step) :
    Hub.KeepsCtl p s.hub (s.stepArrives r st).hub := by
  unfold State.stepArrives
  split
  · exact .refl p _
  · exact .same (by simp [State.beginCycle])
  · split
    · exact .same (by simp)
    · exact s.keepsCtl_omission p r _ _
  · split
    · exact .same (by simp)
    · exact s.keepsCtl_omission p r _ _

theorem State.keepsCtl_fireShots (r : Rail) (st : Step) (j : Bool) (is : List BlockIx) (cs : List Chan) (ns : List Nat)
    (s : State) : Hub.KeepsCtl p s.hub (State.fireShots s r st j is cs ns).hub := by
  induction is generalizing s cs ns with
  | nil => exact .refl p _
  | cons i is ih =>
    cases cs with
    | nil => exact .refl p _
    | cons c cs =>
      cases ns with
      | nil => exact .refl p _
      | cons n ns =>
        unfold State.fireShots
        refine Hub.KeepsCtl.trans (.same ?_) (ih cs ns _)
        simp [State.fireShot, Hub.ctl_claims]

theorem State.keepsCtl_grant (s : State) (r : Rail) (st : Step) : Hub.KeepsCtl p s.hub (s.grant r st).hub := by
  unfold State.grant
  dsimp only
  rw [State.hub_setSeq]
  refine Hub.KeepsCtl.trans ?_ (State.keepsCtl_fireShots p r st _ _ _ _ _)
  exact Hub.KeepsCtl.trans (.same (by rfl)) (State.keepsCtl_closeSkip p _ r)

theorem State.keepsCtl_consider (s : State) (r : Rail) : Hub.KeepsCtl p s.hub (s.consider r).1.hub := by
  unfold State.consider
  split
  · split
    · split
      · exact s.keepsCtl_grant p r _
      · unfold State.omitGroup
        dsimp only
        rw [State.hub_setSeq]
        exact s.keepsCtl_omission p r _ _
    · exact .refl p _
  · exact .refl p _

theorem State.keepsCtl_afterRefusals (fuel : Nat) (l : List Rail) (s : State) :
    Hub.KeepsCtl p s.hub (State.afterRefusals fuel l s).hub := by
  induction fuel generalizing l s with
  | zero => unfold State.afterRefusals; exact .refl p _
  | succ k ih =>
    cases l with
    | nil => unfold State.afterRefusals; exact .refl p _
    | cons r rest =>
      unfold State.afterRefusals
      refine Hub.KeepsCtl.trans ?_ (ih _ _)
      exact Hub.KeepsCtl.trans (.same (by rw [State.hub_walkOn])) (State.keepsCtl_consider p _ r)

theorem State.keepsCtl_pass (s : State) : Hub.KeepsCtl p s.hub s.pass.hub := by
  have h1 := s.keepsCtl_consider p s.higherRail
  have h2 := h1.trans (State.keepsCtl_consider p (s.consider s.higherRail).1 s.higherRail.other)
  unfold State.pass
  dsimp only
  split
  · exact h1
  · split
    · exact h2.trans (State.keepsCtl_afterRefusals p _ _ _)
    · exact h2
  · split
    · exact h2.trans (State.keepsCtl_afterRefusals p _ _ _)
    · exact h2
  · exact h2.trans (State.keepsCtl_afterRefusals p _ _ _)

theorem State.hub_haltAtLimit (s : State) : s.haltAtLimit.hub = s.hub := by
  unfold State.haltAtLimit
  split <;> rfl

theorem State.keepsCtl_issue (s : State) : Hub.KeepsCtl p s.hub s.issue.hub := by
  let st : Step := { no := s.gen.stepNo + 1, pos := s.odo.position }
  let t : State := { s with gen := { s.gen with stepNo := st.no } }
  have arrived : Hub.KeepsCtl p s.hub ((t.stepArrives .a st).stepArrives .b st).haltAtLimit.hub := by
    rw [State.hub_haltAtLimit]
    exact (t.keepsCtl_stepArrives p .a st).trans (State.keepsCtl_stepArrives p _ .b st)
  unfold State.issue
  dsimp only
  split
  · exact arrived.trans (State.keepsCtl_pass p _)
  · exact arrived

theorem State.keepsCtl_complete (s : State) : Hub.KeepsCtl p s.hub s.complete.hub :=
  ((s.keepsCtl_closeSkip p .a).trans (State.keepsCtl_closeSkip p _ .b)).trans
    (State.keepsCtl_handRecord p ((s.closeSkip .a).closeSkip .b).turnOff _)

theorem State.keepsCtl_completeIfDue (s : State) : Hub.KeepsCtl p s.hub s.completeIfDue.hub := by
  unfold State.completeIfDue
  split
  · exact s.keepsCtl_complete p
  · exact .refl p _

theorem State.keepsCtl_issueReached (n : Nat) (s : State) : Hub.KeepsCtl p s.hub (State.issueReached n s).hub := by
  induction n generalizing s with
  | zero => exact .refl p _
  | succ n ih =>
    unfold State.issueReached
    split
    · exact ((s.advanceBoundary.keepsCtl_issue p).trans (State.keepsCtl_completeIfDue p _)).trans (ih _)
    · exact .refl p _

theorem State.hub_newPitch (s : State) : s.newPitch.hub = s.hub := by
  unfold State.newPitch
  split <;> rfl

theorem State.keepsCtl_swap (s : State) : Hub.KeepsCtl p s.hub s.swap.hub := by
  unfold State.swap
  split
  · next sig q _ _ =>
    refine Hub.KeepsCtl.trans ?_ (State.keepsCtl_issueReached p _ _)
    unfold State.swapBanks
    dsimp only
    rw [State.hub_newPitch]
    exact State.keepsCtl_handRecord p (State.clearFired { s with plan := s.plan.swapped sig }) _
  · exact .refl p _

theorem State.keepsCtl_swapIfDue (s : State) : Hub.KeepsCtl p s.hub s.swapIfDue.hub := by
  unfold State.swapIfDue
  split
  · exact s.keepsCtl_swap p
  · exact .refl p _

theorem State.keepsCtl_afterCycles (s : State) : Hub.KeepsCtl p s.hub s.afterCycles.hub := by
  unfold State.afterCycles
  split
  · dsimp only
    split
    · exact (State.keepsCtl_swap p { s with freeCount := s.freeCount + 1 }).trans (State.keepsCtl_completeIfDue p _)
    · exact (State.keepsCtl_complete p { s with freeCount := s.freeCount + 1 }).trans (State.keepsCtl_swapIfDue p _)
  · exact (s.keepsCtl_completeIfDue p).trans (State.keepsCtl_swapIfDue p _)

end keeps

end Sys2Proof.Machine
end

section
/-! SUPPORT. COMMIT: the run of the request as one equation, when what follows a cycle's end has nothing to do, and the
swap of a part at rest. -/

namespace Sys2Proof.Machine

/-- The signature among the figures of a commit check passed is the shadow bank's own (R16, R22). -/
theorem commitCheck_signature {run : Bool} {active shadow : Bank} {figs : Figures}
    (h : commitCheck run active shadow = .ok figs) : figs.signature = signatureOf shadow := by
  unfold commitCheck at h
  split at h
  · cases h
  · exact checkBank_signature h

/-! ## The request -/

/-- A controller that has taken a request takes it as it stands. -/
theorem PortCtl.answered_taken {c : PortCtl} (h : c.state = .ready ∨ c.state = .heldTake) (f : TxFrame) :
    c.taken.answered f = c.answered f := by
  unfold PortCtl.answered
  rw [PortCtl.taken_of_ready (PortCtl.state_taken h) c.rx_taken]

/-- A READY controller with an empty receive buffer answers as one that has just taken its request. -/
theorem Hub.answer_of_ready {h : Hub} {p : Port} (ready : (h.ctl p).state = .ready) (rx : (h.ctl p).rx = [])
    (tag kind : Byte) (r : Reply) :
    h.answer p tag kind r = h.setCtl p ((h.ctl p).answered (.response tag kind r)) := by
  unfold Hub.answer PortCtl.answered
  rw [Hub.answerFrame_eq, PortCtl.taken_of_ready ready rx]

theorem State.check_eq (s : State) :
    s.check = commitCheck (decide (s.run.state ≠ .idle)) s.bank s.plan.shadowBank := rfl

theorem State.commitBy_busy {s : State} (p : Port) (h : s.plan.commit ≠ .none) : s.commitBy p = (s, .refused .busy) :=
  if_neg h

theorem State.commitBy_fault {s : State} (p : Port) {f : CommitFault} (h : s.plan.commit = .none)
    (hf : commitCheck (decide (s.run.state ≠ .idle)) s.bank s.plan.shadowBank = .error f) :
    s.commitBy p = (s, .refused (if f.kind = .runActive then .runActive else .invalid f)) := by
  unfold State.commitBy
  rw [if_pos h, State.check_eq, hf]

theorem State.commitBy_passed {s : State} (p : Port) {figs : Figures} (h : s.plan.commit = .none)
    (hf : commitCheck (decide (s.run.state ≠ .idle)) s.bank s.plan.shadowBank = .ok figs) :
    s.commitBy p = ((State.afterCycles { s with plan := s.plan.pend figs.signature p }).endPool, .pending figs) := by
  unfold State.commitBy
  rw [if_pos h, State.check_eq, hf]

/-- The part in which a commit that passed the check has become pending, on a port that has taken its request (R36). -/
def State.committing (s : State) (p : Port) (figs : Figures) : State :=
  { s with
    plan := { s.plan with commit := .pending, pendingSig := some figs.signature, committer := some p }
    hub := s.hub.setCtl p (s.hub.ctl p).taken }

@[simp] theorem State.seq_committing (s : State) (p : Port) (figs : Figures) (r : Rail) :
    (s.committing p figs).seq r = s.seq r := by
  cases r <;> rfl

/-- A COMMIT that passes the check: what follows upon the pending commit, the timer restarted, and the answer PENDING
(R24, R36). -/
theorem State.exec_commit {s : State} {p : Port} {figs : Figures} (h : s.takesOn p) (hold : s.plan.holder = some p)
    (hc : s.plan.commit = .none)
    (hf : commitCheck (decide (s.run.state ≠ .idle)) s.bank s.plan.shadowBank = .ok figs) (tag : Byte) :
    let v := (s.committing p figs).afterCycles.endPool
    exec (.commit p tag) s =
      .next (v.restartIdle.withHub (v.hub.setCtl p ((v.hub.ctl p).answered (.response tag 0x15 (.pending figs))))) := by
  intro v
  let t := s.withHub (s.hub.setCtl p (s.hub.ctl p).taken)
  have taken : t.hub.ctl p = (s.hub.ctl p).taken := by simp [t]
  have ready : (t.hub.ctl p).state = .ready := by rw [taken]; exact PortCtl.state_taken h.2
  have kept : v.hub.ctl p = t.hub.ctl p :=
    ((State.keepsCtl_afterCycles p (s.committing p figs)).trans (State.keepsCtl_endPool p _))
      (by show (t.hub.ctl p).state ≠ _; rw [ready]; decide)
  have serve : t.withRight p (fun u => u.commitBy p) = (v.restartIdle, .pending figs) := by
    have body : t.commitBy p = (v, .pending figs) := State.commitBy_passed p hc hf
    have holder : t.plan.holder = some p := hold
    simp [State.withRight, holder, body, Reply.accepted]
  have run : exec (.commit p tag) s = .next (s.doCommit p tag) := whileReleased_released h.1 _
  have answer := Hub.answer_of_ready (h := v.hub) (p := p) (by rw [kept]; exact ready) (by rw [kept, taken]; simp) tag
    0x15 (.pending figs)
  rw [run, State.doCommit, State.request, State.receive_takes h, State.respond, serve, ← answer]
  rfl

/-! ## What follows a cycle's end -/

/-- While a rail is in its cycle no run ends and no swap takes place (R37, R155). -/
theorem State.afterCycles_busy {s : State} {r : Rail}
    (h : (s.seq r).state = .requesting ∨ (s.seq r).state = .listening) : s.afterCycles = s := by
  have notOff : (s.seq r).state ≠ .off := by rcases h with h | h <;> simp [h]
  have notWaiting : (s.seq r).state ≠ .waiting := by rcases h with h | h <;> simp [h]
  have noEnd : s.completionDue = false := by
    cases r with
    | a => simp [State.completionDue, show s.seqA.state ≠ .waiting from notWaiting]
    | b => simp [State.completionDue, show s.seqB.state ≠ .waiting from notWaiting]
  have noSwap : s.swapDue = false := by
    cases r <;> simp [State.swapDue, State.railIdle, notOff, notWaiting]
  simp [State.afterCycles, State.completeIfDue, State.swapIfDue, noEnd, noSwap]

/-- Outside FINISHING no run ends (R155). -/
theorem State.afterCycles_swap {s : State} (h : s.run.state ≠ .finishing) : s.afterCycles = s.swapIfDue := by
  have noEnd : s.completionDue = false := by simp [State.completionDue, h]
  simp [State.afterCycles, State.completeIfDue, noEnd]

theorem State.swapDue_iff (s : State) : s.swapDue = true ↔ s.plan.commit = .pending ∧
    ∀ r, (s.seq r).state = .off ∨ ((s.seq r).state = .waiting ∧ (s.seq r).waiting = none) := by
  have rails : ∀ P : Rail → Prop, (∀ r, P r) ↔ P .a ∧ P .b := fun P =>
    ⟨fun h => ⟨h .a, h .b⟩, fun h r => by cases r; exacts [h.1, h.2]⟩
  simp [State.swapDue, State.railIdle, rails, and_assoc]

/-- With no loss counted the end of an event of the pool does nothing (R129). -/
theorem State.endPool_noLoss {s : State} (h : s.hub.pool.lost = 0) : s.endPool = s := by
  unfold State.endPool
  split
  · rw [if_pos h]
  · rfl

/-! ## The swap -/

theorem State.swap_eq {s : State} {sig : BitVec 32} {p : Port} (hs : s.plan.pendingSig = some sig)
    (hp : s.plan.committer = some p) :
    s.swap = State.issueReached (s.swapBanks sig p).reachedCount (s.swapBanks sig p) := by
  unfold State.swap
  rw [hs, hp]

/-- A commit pending on rails at rest outside FINISHING is swapped at once (R37). -/
theorem State.afterCycles_committing {s : State} (p : Port) (figs : Figures)
    (rest : ∀ r, (s.seq r).state = .off ∨ ((s.seq r).state = .waiting ∧ (s.seq r).waiting = none))
    (running : s.run.state ≠ .finishing) : (s.committing p figs).afterCycles = (s.committing p figs).swap := by
  have due : (s.committing p figs).swapDue = true :=
    (State.swapDue_iff _).2 ⟨rfl, fun r => by rw [State.seq_committing]; exact rest r⟩
  rw [State.afterCycles_swap (s := s.committing p figs) running, State.swapIfDue, if_pos due]

theorem State.plan_swapBanks (s : State) (sig : BitVec 32) (p : Port) :
    (s.swapBanks sig p).plan = s.plan.swapped sig := by
  simp [State.swapBanks]

theorem State.plan_swap {s : State} {sig : BitVec 32} {p : Port} (hs : s.plan.pendingSig = some sig)
    (hp : s.plan.committer = some p) : s.swap.plan = s.plan.swapped sig := by
  rw [State.swap_eq hs hp, State.plan_issueReached, State.plan_swapBanks]

/-- With the generator OFF the swap changes the Plan Store, the fired counts and the road of records alone (R38, R60). -/
theorem State.swapBanks_off {s : State} (h : s.gen.state = .off) (sig : BitVec 32) (p : Port) :
    ∃ k : Hub, s.swapBanks sig p = (State.clearFired { s with plan := s.plan.swapped sig }).withHub k := by
  have still : s.swapBanks sig p = (State.clearFired { s with plan := s.plan.swapped sig }).handRecord
      (.plan (s.plan.swapped sig).epoch sig (s.plan.swapped sig).activeIx p) := if_pos h
  exact ⟨_, still⟩

/-- With the generator OFF the swap issues no step (R60). -/
theorem State.swap_off {s : State} {sig : BitVec 32} {p : Port} (hs : s.plan.pendingSig = some sig)
    (hp : s.plan.committer = some p) (h : s.gen.state = .off) : s.swap = s.swapBanks sig p := by
  obtain ⟨k, e⟩ := State.swapBanks_off h sig p
  have off : (s.swapBanks sig p).gen.state = .off := by rw [e]; exact h
  rw [State.swap_eq hs hp]
  cases (s.swapBanks sig p).reachedCount with
  | zero => rfl
  | succ n => rw [State.issueReached, if_neg (by simp [off])]

/-- A commit pending in a part that is OFF: the swap changes the Plan Store, the fired counts and the road of records
alone, and what follows it the road of records (R37, R38, R129). -/
theorem State.committing_off {s : State} (p : Port) (figs : Figures) (rails : ∀ r, (s.seq r).state = .off)
    (gen : s.gen.state = .off) (idle : s.run.state = .idle) :
    ∃ k : Hub, (s.committing p figs).afterCycles.endPool =
      (State.clearFired { s with plan := (s.committing p figs).plan.swapped figs.signature }).withHub k := by
  have swaps := State.afterCycles_committing p figs (fun r => .inl (rails r)) (by rw [idle]; decide)
  obtain ⟨k, banks⟩ := State.swapBanks_off (s := s.committing p figs) gen figs.signature p
  rw [State.swap_off (s := s.committing p figs) rfl rfl gen, banks] at swaps
  rw [swaps, State.endPool_eq]
  exact ⟨_, rfl⟩

end Sys2Proof.Machine

namespace Sys2Proof.Proofs
open Sys2Proof.Machine

/-- Settles O42: the refusals change nothing; a pass runs what follows a cycle's end on the pending commit, which does
nothing while a rail is in its cycle and swaps the banks where both rest. -/
theorem commitChecksThenPendsOrSwaps : Obligations.CommitChecksThenPendsOrSwaps := by
  intro s p tag h hold
  refine ⟨fun hc => ?_, fun f hc hf => ?_, fun figs r hc hf busy lost => ?_, fun figs hc hf => ?_,
    fun figs hc hf idle off offA offB => ?_⟩
  · exact State.request_refused h hold tag 0x15 fun k => State.commitBy_busy p hc
  · exact State.request_refused h hold tag 0x15 fun k => State.commitBy_fault p hc hf
  · have still : (s.committing p figs).afterCycles.endPool = s.committing p figs := by
      rw [State.afterCycles_busy (r := r) (by cases r <;> exact busy),
        State.endPool_noLoss (s := s.committing p figs) lost]
    have run := State.exec_commit h hold hc hf tag
    rw [still] at run
    refine ⟨_, run, ?_⟩
    have ctl : (s.committing p figs).hub.ctl p = (s.hub.ctl p).taken := Hub.ctl_setCtl_self _ _ _
    rw [ctl, PortCtl.answered_taken h.2, State.answeredBy]
    show _ = State.withHub _ _
    rw [State.committing, Hub.setCtl_setCtl]
    rfl
  · intro u v
    refine ⟨_, State.exec_commit h hold hc hf tag, rfl, fun rest running => ?_⟩
    have swapped : u.afterCycles = u.swap := State.afterCycles_committing p figs rest running
    have plan : v.plan = u.plan.swapped figs.signature := by
      rw [show v = u.swap.endPool from congrArg State.endPool swapped, State.plan_endPool]
      exact State.plan_swap rfl rfl
    have signature : figs.signature = signatureOf s.plan.shadowBank := commitCheck_signature hf
    refine ⟨congrArg State.endPool (State.afterCycles_swap (s := u) running), ?_, ?_⟩
    · show v.odo = s.odo
      rw [show v = u.swap.endPool from congrArg State.endPool swapped]
      simp [u]
    · show { v.plan with idleTimer := some 20 } = _
      rw [plan, ← signature]
      rfl
  · have rest : ∀ r, (s.seq r).state = .off := fun r => by cases r; exacts [offA, offB]
    have hf' : commitCheck (decide (s.run.state ≠ .idle)) s.bank s.plan.shadowBank = .ok figs := by
      simpa [idle] using hf
    obtain ⟨k, swapped⟩ := State.committing_off p figs rest off idle
    have run := State.exec_commit h hold hc hf' tag
    rw [swapped] at run
    refine ⟨_, run, ?_, PlanStore.activeBank_swapped (s.committing p figs).plan figs.signature,
      PlanStore.shadowBank_swapped (s.committing p figs).plan figs.signature, rfl, rfl, commitCheck_signature hf,
      rfl, hold, rfl, fun r => by cases r <;> rfl, rfl, rfl, rfl, rfl, rfl, rfl⟩
    simp [PortCtl.answered]

end Sys2Proof.Proofs
end

section
/-! SUPPORT. The grant of a group: the slots it allocates, the pages in use, what one shot writes, and what the shots of a
group leave alone. -/

namespace Sys2Proof.Machine

/-! ## Slots and pages of the pool -/

theorem Cells.length_put_le {α : Type} (k : Nat) (x : α) (l : List (Nat × α)) :
    (Cells.put k x l).length ≤ l.length + 1 := by
  induction l with
  | nil => simp [Cells.put]
  | cons c rest ih =>
    obtain ⟨j, y⟩ := c
    unfold Cells.put
    split
    · simp
    · split
      · simp
      · simpa using ih

theorem Cells.find_of_mem {α : Type} {lo k : Nat} {x : α} {l : List (Nat × α)} (h : Cells.risingFrom lo l = true)
    (hx : (k, x) ∈ l) : Cells.find k l = some x := by
  induction l generalizing lo with
  | nil => cases hx
  | cons c rest ih =>
    obtain ⟨j, y⟩ := c
    simp only [Cells.risingFrom, Bool.and_eq_true, decide_eq_true_eq] at h
    obtain e | hx := List.mem_cons.1 hx
    · cases e; simp [Cells.find]
    · have found := ih h.2 hx
      have ne : j ≠ k := by
        rintro rfl
        rw [Cells.find_of_rising h.2 (Nat.lt_succ_self j)] at found
        cases found
      simp [Cells.find, ne, found]

/-- The number of the page attached to a slot, if it has one. -/
def Pool.pageAt (p : Pool) (n : Nat) : Option Nat := (p.slot n).bind (fun y => y.page.map (fun z => z.no))

/-- A page is in use when a slot has it (R119, R123). -/
theorem Pool.mem_usedPages {p : Pool} (h : p.wf = true) (m : Nat) : m ∈ p.usedPages ↔ ∃ n, p.pageAt n = some m := by
  have rising := ((Pool.wf_iff p).1 h).1
  simp only [Pool.usedPages, List.mem_filterMap, Pool.pageAt, Pool.slot, Option.bind_eq_some_iff]
  constructor
  · rintro ⟨⟨n, x⟩, hx, page⟩
    exact ⟨n, x, Cells.find_of_mem rising hx, page⟩
  · rintro ⟨n, x, hx, page⟩
    exact ⟨(n, x), Cells.mem_of_find hx, page⟩

theorem Pool.pageAt_putSlot {p : Pool} (h : p.wf = true) (n m : Nat) (x : Slot) :
    (p.putSlot n x).pageAt m = if m = n then x.page.map (fun z => z.no) else p.pageAt m := by
  unfold Pool.pageAt
  rw [Pool.slot_putSlot h]
  split <;> rfl

/-- A slot written without a page where there was none leaves the pages as they are. -/
theorem Pool.pageAt_putSlot_blank {p : Pool} (h : p.wf = true) {n : Nat} (free : p.pageAt n = none) {x : Slot}
    (hx : x.page = none) (m : Nat) : (p.putSlot n x).pageAt m = p.pageAt m := by
  rw [Pool.pageAt_putSlot h, hx]
  split
  · next e => rw [e, free]; rfl
  · rfl

theorem Pool.pageAt_of_free {p : Pool} {n : Nat} (h : p.slot n = none) : p.pageAt n = none := by
  rw [Pool.pageAt, h]; rfl

/-! ## Allocation (R122) -/

/-- A slot just allocated. -/
abbrev blankSlot : Slot := Slot.assembling .blank

theorem Pool.firstFreeSlot_of_room {p : Pool} (h : p.slots.length < 1024) :
    p.firstFreeSlot = some (Cells.firstFree 0 p.slots) := by
  have := Cells.firstFree_le 0 p.slots
  exact if_pos (by unfold Config.slotCount; omega)

theorem Pool.allocate_succ {p : Pool} {n : Nat} (k : Nat) (h : p.firstFreeSlot = some n) :
    p.allocate (k + 1) =
      (((p.putSlot n blankSlot).allocate k).1, n :: ((p.putSlot n blankSlot).allocate k).2) := by
  rw [Pool.allocate, h]

/-- The slots allocated are as many as asked for, FREE before, and the pool is the one with each of them taken. -/
theorem Pool.allocate_spec (k : Nat) {p : Pool} (h : p.wf = true) (room : p.slots.length + k ≤ 1024) :
    (p.allocate k).2.length = k ∧ (p.allocate k).2.Nodup ∧ (∀ n ∈ (p.allocate k).2, n < 1024 ∧ p.slot n = none) ∧
      (p.allocate k).1 = (p.allocate k).2.foldl (fun q n => q.putSlot n blankSlot) p ∧
      (p.allocate k).1.wf = true ∧ ∀ m, (p.allocate k).1.pageAt m = p.pageAt m := by
  induction k generalizing p with
  | zero => exact ⟨rfl, List.nodup_nil, by simp [Pool.allocate], rfl, h, fun _ => rfl⟩
  | succ k ih =>
    have first := Pool.firstFreeSlot_of_room (p := p) (by omega)
    obtain ⟨free, small⟩ := Pool.firstFreeSlot_free h first
    generalize Cells.firstFree 0 p.slots = n at first free small
    have grown : (p.putSlot n blankSlot).slots.length ≤ p.slots.length + 1 := Cells.length_put_le _ _ _
    obtain ⟨length, nodup, frees, pool, wf, pages⟩ := ih (Pool.wf_putSlot h small blankSlot) (by omega)
    have slots := Pool.slot_putSlot h n (x := blankSlot)
    rw [Pool.allocate_succ k first]
    refine ⟨by simp [length], List.nodup_cons.2 ⟨fun hn => ?_, nodup⟩, fun m hm => ?_, pool, wf, fun m => ?_⟩
    · have := (frees n hn).2
      rw [slots, if_pos rfl] at this
      cases this
    · obtain rfl | hm := List.mem_cons.1 hm
      · exact ⟨small, free⟩
      · have := (frees m hm).2
        rw [slots] at this
        split at this
        · cases this
        · exact ⟨(frees m hm).1, this⟩
    · rw [pages, Pool.pageAt_putSlot_blank h (Pool.pageAt_of_free free) rfl]

/-! ## A SKIP record handed to the pool (R80, R124) -/

theorem Pool.pageAt_setContent {p : Pool} (h : p.wf = true) (n : Nat) (c : Content) (m : Nat) :
    (p.setContent n c).pageAt m = p.pageAt m := by
  unfold Pool.setContent
  split
  · next x hx =>
    rw [Pool.pageAt_putSlot h]
    split
    · next e => rw [e, Pool.pageAt, hx]; rfl
    · rfl
  · rfl

/-- Fan-out leaves the pages as they are where the record's slot has none. -/
theorem Pool.pageAt_finishFanOut {p : Pool} (h : p.wf = true) {n : Nat} (free : p.pageAt n = none) (refs m : Nat) :
    (p.finishFanOut n refs).pageAt m = p.pageAt m := by
  unfold Pool.finishFanOut
  split
  · unfold Pool.pageAt at free ⊢
    rw [Pool.slot_freeSlot h]
    split
    · next e => rw [e, free]; rfl
    · rfl
  · split
    · next x hx =>
      rw [Pool.pageAt_putSlot h]
      split
      · next e => rw [e, Pool.pageAt, hx]; rfl
      · rfl
    · rfl

theorem Hub.pageAt_place {h : Hub} (w : h.pool.wf = true) {n : Nat} (hn : n < Config.slotCount)
    (free : h.pool.slot n = none) (r : Rec) (m : Nat) : (h.place n r).pool.pageAt m = h.pool.pageAt m := by
  have w1 := Pool.wf_putSlot w hn (Slot.assembling (.unnumbered r))
  have e1 := Pool.pageAt_putSlot_blank (x := Slot.assembling (.unnumbered r)) w (Pool.pageAt_of_free free) rfl
  unfold Hub.place
  obtain ⟨refs, e⟩ := Hub.pool_fanOut (h.withPool (h.pool.putSlot n (Slot.assembling (.unnumbered r)))) n r
  rw [e]
  generalize hq : (h.withPool (h.pool.putSlot n (Slot.assembling (.unnumbered r)))).pool = q
  replace hq : h.pool.putSlot n (Slot.assembling (.unnumbered r)) = q := hq
  rw [hq] at w1 e1
  have w2 := Pool.wf_setContent w1 n (.record (nextSeq q.seq) r)
  have e2 := Pool.pageAt_setContent w1 n (.record (nextSeq q.seq) r)
  have none : (q.setContent n (.record (nextSeq q.seq) r)).pageAt n = none := by
    rw [e2, e1, Pool.pageAt_of_free free]
  exact (Pool.pageAt_finishFanOut (p := { q.setContent n (.record (nextSeq q.seq) r) with seq := nextSeq q.seq }) w2
    none refs m).trans ((e2 m).trans (e1 m))

theorem Hub.pageAt_hand {h : Hub} (w : h.pool.wf = true) (r : Rec) (m : Nat) :
    (h.hand r).pool.pageAt m = h.pool.pageAt m := by
  unfold Hub.hand
  split
  · next n _ hn =>
    obtain ⟨free, small⟩ := Pool.firstFreeSlot_free w hn
    exact Hub.pageAt_place w small free r m
  · split <;> rfl

/-! ## Snapshot entries through the road of a record -/

theorem Hub.snap_sendTake (h : Hub) (p q : Port) (t : TakeJob) : ((h.sendTake p t).dist q).snap = (h.dist q).snap := by
  unfold Hub.sendTake Hub.sendEnd Hub.send
  split
  · simp
  · split
    · split <;> simp
    · simp
    · split
      · simp only [Hub.dist_setCtl', Hub.dist_putDist]
        split
        · next e => rw [e]
        · rfl
      · simp

theorem Hub.snap_startNext (h : Hub) (p q : Port) : ((h.startNext p).dist q).snap = (h.dist q).snap := by
  unfold Hub.startNext
  split
  · rfl
  · split
    · simp
    · split
      · simp
      · split
        · split
          · exact h.snap_sendTake p q _
          · rfl
        · rfl

theorem Hub.snap_wakes (q : Port) (l : List Port) (h : Hub) :
    ((l.foldl Hub.wake h).dist q).snap = (h.dist q).snap := by
  induction l generalizing h with
  | nil => rfl
  | cons p l ih =>
    rw [List.foldl_cons, ih]
    unfold Hub.wake
    split
    · rw [Hub.snap_startNext, Hub.dist_setCtl']
    · rfl

theorem PortDist.snap_offer (d : PortDist) (seq : BitVec 32) (n : Nat) : (d.offer seq n).1.snap = d.snap := by
  unfold PortDist.offer
  split
  · split <;> rfl
  · split <;> rfl

/-- Offers of a record that is no shot consume no snapshot entry (R148). -/
theorem Hub.snap_offers (q : Port) (n : Nat) (seq : BitVec 32) {r : Rec} (notShot : r.body.isShot = false)
    (l : List Port) (acc : Hub × Nat) :
    ((l.foldl (Hub.offerTo n seq r) acc).1.dist q).snap = (acc.1.dist q).snap := by
  induction l generalizing acc with
  | nil => rfl
  | cons p l ih =>
    rw [List.foldl_cons, ih]
    unfold Hub.offerTo
    split
    · simp only [Hub.dist_putDist, PortDist.consume, notShot, Bool.false_and, Bool.false_eq_true, if_false]
      split
      · next e => rw [e]; exact PortDist.snap_offer _ _ _
      · rfl
    · rfl

theorem Hub.snap_hand (h : Hub) {r : Rec} (notShot : r.body.isShot = false) (q : Port) :
    ((h.hand r).dist q).snap = (h.dist q).snap := by
  unfold Hub.hand
  split
  · unfold Hub.place Hub.fanOut
    dsimp only
    rw [Hub.snap_wakes, Hub.dist_withPool, Hub.snap_offers q _ _ notShot]
    rfl
  · split <;> rfl

end Sys2Proof.Machine
end

section
/-! SUPPORT. The shots of a granted group: what one shot writes, what the shots leave alone, and the shot of a place in
the group. -/

namespace Sys2Proof.Machine

/-! ## Claims (R147) -/

theorem SnapEntry.claim_of_ne {e : SnapEntry} {p : ProbeNo} (n : Nat) (h : e ≠ .waiting p) : e.claim p n = e := by
  unfold SnapEntry.claim
  split
  · rfl
  · exact if_neg (by rintro rfl; exact h rfl)
  · rfl

theorem SnapEntry.claim_waiting (p : ProbeNo) (n : Nat) : (SnapEntry.waiting p).claim p n = .claimed p n := if_pos rfl

/-- A claim leaves no entry waiting that did not wait before. -/
theorem SnapEntry.waiting_of_claim {e : SnapEntry} {p q : ProbeNo} {n : Nat} (h : e.claim p n = .waiting q) :
    e = .waiting q := by
  unfold SnapEntry.claim at h
  split at h
  · cases h
  · split at h
    · cases h
    · exact h
  · cases h

theorem Hub.pool_claims (i : ProbeNo) (n : Nat) (l : List Port) (h : Hub) :
    (l.foldl (Hub.claimAt i n) h).pool = h.pool := by
  induction l generalizing h with
  | nil => rfl
  | cons q l ih => rw [List.foldl_cons, ih]; rfl

theorem Hub.dist_claims (i : ProbeNo) (n : Nat) (q : Port) (l : List Port) (hl : l.Nodup) (h : Hub) :
    (l.foldl (Hub.claimAt i n) h).dist q =
      if q ∈ l then { h.dist q with snap := (h.dist q).snap.claim i n } else h.dist q := by
  induction l generalizing h with
  | nil => rfl
  | cons p l ih =>
    obtain ⟨fresh, nodup⟩ := List.nodup_cons.1 hl
    have here : (h.claimAt i n p).dist q =
        if q = p then { h.dist p with snap := (h.dist p).snap.claim i n } else h.dist q := Hub.dist_setDist _ _ _ _
    rw [List.foldl_cons, ih nodup, here]
    by_cases e : q = p
    · subst e
      simp [fresh]
    · simp [e]

/-- The claim of a shot reaches the snapshot entry of every port. -/
theorem Hub.dist_allClaims (i : ProbeNo) (n : Nat) (q : Port) (h : Hub) :
    (allPorts.foldl (Hub.claimAt i n) h).dist q = { h.dist q with snap := (h.dist q).snap.claim i n } := by
  have all : ∀ q : Port, q ∈ allPorts := by decide
  rw [Hub.dist_claims i n q allPorts (by decide), if_pos (all q)]

theorem Hub.snapshotWaits_iff (h : Hub) (p : ProbeNo) :
    h.snapshotWaits p = true ↔ ∃ q, (h.dist q).snap = .waiting p := by
  have all : ∀ q : Port, q ∈ allPorts := by decide
  simp [Hub.snapshotWaits, all]

/-! ## What the shots leave alone -/

/-- From `s` to `t` shots of the rail `r` have been fired for the blocks `is` on the channels `cs` into the slots `ns`:
nothing else has changed. -/
structure Fired (r : Rail) (s t : State) (is : List BlockIx) (cs : List Chan) (ns : List Nat) : Prop where
  outside : SameOutside s t
  arb : t.arb = s.arb
  other : t.seq r.other = s.seq r.other
  seq : t.seq r = { s.seq r with fired := (t.seq r).fired }
  fired : ∀ i ∉ is, (t.seq r).fired[i] = (s.seq r).fired[i]
  chans : ∀ c ∉ cs, t.chans[c] = s.chans[c]
  wf : t.hub.pool.wf = true
  waiting : t.hub.pool.waiting = s.hub.pool.waiting
  number : t.hub.pool.seq = s.hub.pool.seq
  lost : t.hub.pool.lost = s.hub.pool.lost
  slot : ∀ m ∉ ns, t.hub.pool.slot m = s.hub.pool.slot m
  ctl : ∀ q, t.hub.ctl q = s.hub.ctl q
  dist : ∀ q, t.hub.dist q = { s.hub.dist q with snap := (t.hub.dist q).snap }
  snap : ∀ q, (∀ i ∈ is, (s.hub.dist q).snap ≠ .waiting (s.bank.block i).probe) →
    (t.hub.dist q).snap = (s.hub.dist q).snap
  snapWaits : ∀ q p, (t.hub.dist q).snap = .waiting p → (s.hub.dist q).snap = .waiting p

theorem Fired.refl (r : Rail) {s : State} (h : s.hub.pool.wf = true) : Fired r s s [] [] [] where
  outside := SameOutside.refl s
  arb := rfl
  other := rfl
  seq := rfl
  fired _ _ := rfl
  chans _ _ := rfl
  wf := h
  waiting := rfl
  number := rfl
  lost := rfl
  slot _ _ := rfl
  ctl _ := rfl
  dist _ := rfl
  snap _ _ := rfl
  snapWaits _ _ h := h

theorem Fired.pageAt {r : Rail} {s t : State} {is : List BlockIx} {cs : List Chan} {ns : List Nat}
    (h : Fired r s t is cs ns) {m : Nat} (hm : m ∉ ns) : t.hub.pool.pageAt m = s.hub.pool.pageAt m := by
  rw [Pool.pageAt, h.slot m hm]
  rfl

theorem Fired.append {r : Rail} {s t u : State} {is is' : List BlockIx} {cs cs' : List Chan} {ns ns' : List Nat}
    (h : Fired r s t is cs ns) (k : Fired r t u is' cs' ns') : Fired r s u (is ++ is') (cs ++ cs') (ns ++ ns') where
  outside := h.outside.trans k.outside
  arb := k.arb.trans h.arb
  other := k.other.trans h.other
  seq := by rw [k.seq, h.seq]
  fired i hi := by
    simp only [List.mem_append, not_or] at hi
    rw [k.fired i hi.2, h.fired i hi.1]
  chans c hc := by
    simp only [List.mem_append, not_or] at hc
    rw [k.chans c hc.2, h.chans c hc.1]
  wf := k.wf
  waiting := k.waiting.trans h.waiting
  number := k.number.trans h.number
  lost := k.lost.trans h.lost
  slot m hm := by
    simp only [List.mem_append, not_or] at hm
    rw [k.slot m hm.2, h.slot m hm.1]
  ctl q := (k.ctl q).trans (h.ctl q)
  dist q := by rw [k.dist, h.dist]
  snap q hq := by
    have first := h.snap q fun i hi => hq i (List.mem_append_left _ hi)
    rw [k.snap q fun i hi => ?_, first]
    rw [first, h.outside.bank]
    exact hq i (List.mem_append_right _ hi)
  snapWaits q p hp := h.snapWaits q p (k.snapWaits q p hp)

/-! ## One shot (R71, R76, R88) -/

section shot
variable (s : State) (r : Rail) (st : Step) (joined : Bool) (d : ShotPlan)

/-- The slot of a shot at its grant (R71, R73). -/
def State.shotSlot : Slot :=
  { phase := .assembling
    refs := 0
    content := .shot (s.grantFields r st joined d) (s.bank.block d.block).report
    page := d.page.map (fun n => { no := n, samples := [] }) }

theorem State.pool_fireShot :
    (s.fireShot r st joined d).hub.pool = s.hub.pool.putSlot d.slot (s.shotSlot r st joined d) := by
  simp only [State.fireShot, State.hub_setChan, State.hub_setSeq, State.hub_withHub, Hub.pool_withPool, Hub.pool_claims]
  rfl

theorem State.ctl_fireShot (q : Port) : (s.fireShot r st joined d).hub.ctl q = s.hub.ctl q := by
  simp [State.fireShot, Hub.ctl_claims]

theorem State.dist_fireShot (q : Port) : (s.fireShot r st joined d).hub.dist q =
    { s.hub.dist q with snap := (s.hub.dist q).snap.claim (s.bank.block d.block).probe d.slot } := by
  simp [State.fireShot, Hub.dist_allClaims]

theorem State.seq_fireShot : (s.fireShot r st joined d).seq r =
    { s.seq r with fired := (s.seq r).fired.set d.block ((s.seq r).fired[d.block] + 1) } := by
  simp [State.fireShot]

theorem State.chans_fireShot (c : Chan) : (s.fireShot r st joined d).chans[c] =
    if c = d.chan then s.chans[d.chan].trigger s.bank r d else s.chans[c] := by
  unfold State.fireShot
  dsimp only
  rw [State.chans_setChan_of]
  simp

/-- One shot changes the count of its block, its channel, its slot and the snapshot entries that wait for its probe. -/
theorem State.fired_fireShot (wf : s.hub.pool.wf = true) (small : d.slot < 1024) :
    Fired r s (s.fireShot r st joined d) [d.block] [d.chan] [d.slot] where
  outside := sameOutside_fireShot s r st joined d
  arb := by simp [State.fireShot]
  other := by simp [State.fireShot]
  seq := by rw [State.seq_fireShot]
  fired i hi := by
    have : d.block.val ≠ i.val := fun e => hi (by simp [Fin.ext e.symm])
    rw [State.seq_fireShot]
    simp [this]
  chans c hc := by
    rw [State.chans_fireShot, if_neg (by simpa using hc)]
  wf := by
    rw [State.pool_fireShot]
    exact Pool.wf_putSlot wf small _
  waiting := by rw [State.pool_fireShot]; rfl
  number := by rw [State.pool_fireShot]; rfl
  lost := by rw [State.pool_fireShot]; rfl
  slot m hm := by
    rw [State.pool_fireShot, Pool.slot_putSlot wf, if_neg (by simpa using hm)]
  ctl q := s.ctl_fireShot r st joined d q
  dist q := by rw [State.dist_fireShot]
  snap q hq := by
    rw [State.dist_fireShot]
    exact SnapEntry.claim_of_ne _ (hq d.block (List.mem_singleton_self _))
  snapWaits q p hp := by
    rw [State.dist_fireShot] at hp
    exact SnapEntry.waiting_of_claim hp

end shot

/-! ## The shots of a group -/

section shots
variable {r : Rail} {st : Step} {joined : Bool}

theorem State.fired_fireShots {s : State} {is : List BlockIx} {cs : List Chan} {ns : List Nat}
    (wf : s.hub.pool.wf = true) (small : ∀ n ∈ ns, n < 1024) (hc : cs.length = is.length)
    (hn : ns.length = is.length) : Fired r s (State.fireShots s r st joined is cs ns) is cs ns := by
  induction is generalizing s cs ns with
  | nil =>
    obtain rfl := List.length_eq_zero_iff.1 hc
    obtain rfl := List.length_eq_zero_iff.1 hn
    exact Fired.refl r wf
  | cons i is ih =>
    obtain ⟨c, cs, rfl⟩ := List.exists_cons_of_length_eq_add_one hc
    obtain ⟨n, ns, rfl⟩ := List.exists_cons_of_length_eq_add_one hn
    have first := s.fired_fireShot r st joined (s.planShot r i c n) wf (small n List.mem_cons_self)
    have rest := ih (cs := cs) (ns := ns) first.wf (fun m hm => small m (List.mem_cons_of_mem _ hm)) (by simpa using hc)
      (by simpa using hn)
    exact first.append rest

/-- The shot in a place of the group: those before it have been fired, and those after it leave it as it is. -/
theorem State.fireShots_at {s : State} {is is' : List BlockIx} {cs cs' : List Chan} {ns ns' : List Nat} {i : BlockIx}
    {c : Chan} {n : Nat} (wf : s.hub.pool.wf = true) (small : ∀ m ∈ ns ++ n :: ns', m < 1024)
    (hc : cs.length = is.length) (hn : ns.length = is.length) (hc' : cs'.length = is'.length)
    (hn' : ns'.length = is'.length) :
    ∃ m : State, Fired r s m is cs ns ∧
      Fired r (m.fireShot r st joined (m.planShot r i c n))
        (State.fireShots s r st joined (is ++ i :: is') (cs ++ c :: cs') (ns ++ n :: ns')) is' cs' ns' := by
  induction is generalizing s cs ns with
  | nil =>
    obtain rfl := List.length_eq_zero_iff.1 hc
    obtain rfl := List.length_eq_zero_iff.1 hn
    have first := s.fired_fireShot r st joined (s.planShot r i c n) wf (small n List.mem_cons_self)
    exact ⟨s, Fired.refl r wf, State.fired_fireShots first.wf (fun m hm => small m (List.mem_cons_of_mem _ hm)) hc' hn'⟩
  | cons j is ih =>
    obtain ⟨d, cs, rfl⟩ := List.exists_cons_of_length_eq_add_one hc
    obtain ⟨k, ns, rfl⟩ := List.exists_cons_of_length_eq_add_one hn
    have first := s.fired_fireShot r st joined (s.planShot r j d k) wf (small k List.mem_cons_self)
    obtain ⟨m, before, after⟩ := ih (cs := cs) (ns := ns) first.wf (fun m hm => small m (List.mem_cons_of_mem _ hm))
      (by simpa using hc) (by simpa using hn)
    exact ⟨m, first.append before, after⟩

end shots

end Sys2Proof.Machine
end

section
/-! SUPPORT. The grant of a group (R71): the state its shots start from, and what each of them writes. Settled here: O13. -/

namespace Sys2Proof.Machine

/-! ## The open skip run closed (R80) -/

theorem State.mkRec_setSeq (s : State) (r : Rail) (x : Sequencer) (b : Body) : (s.setSeq r x).mkRec b = s.mkRec b := by
  cases r <;> rfl

theorem State.hub_closeSkip (s : State) (r : Rail) : (s.closeSkip r).hub = s.skipHanded r s.hub := by
  cases h : (s.seq r).skip with
  | none => simp only [State.closeSkip, State.skipHanded, h]
  | some run =>
    simp only [State.closeSkip, State.skipHanded, h, State.handRecord, State.hub_withHub, State.hub_setSeq,
      State.mkRec_setSeq]

/-- The closed run leaves the channels, the requests and the other rail as they are. -/
theorem State.closeSkip_frame (s : State) (r : Rail) :
    (s.closeSkip r).chans = s.chans ∧ (s.closeSkip r).arb = s.arb ∧ (s.closeSkip r).seq r.other = s.seq r.other := by
  cases h : (s.seq r).skip with
  | none => simp only [State.closeSkip, h, and_self]
  | some run => simp [State.closeSkip, h, State.handRecord]

section skipHanded
variable (s : State) (r : Rail)

theorem State.skipHanded_withHub (h k : Hub) : (s.withHub k).skipHanded r h = s.skipHanded r h := by
  cases r <;> rfl

theorem State.skipHanded_cases (h : Hub) :
    s.skipHanded r h = h ∨ ∃ run, s.skipHanded r h = h.hand (s.mkRec (.skip r run)) := by
  cases e : (s.seq r).skip with
  | none => exact .inl (by simp only [State.skipHanded, e])
  | some run => exact .inr ⟨run, by simp only [State.skipHanded, e]⟩

theorem State.wf_skipHanded {h : Hub} (w : h.pool.wf = true) : (s.skipHanded r h).pool.wf = true := by
  obtain e | ⟨run, e⟩ := s.skipHanded_cases r h
  · rwa [e]
  · rw [e]
    exact Hub.wf_hand w _

theorem State.pageAt_skipHanded {h : Hub} (w : h.pool.wf = true) (m : Nat) :
    (s.skipHanded r h).pool.pageAt m = h.pool.pageAt m := by
  obtain e | ⟨run, e⟩ := s.skipHanded_cases r h
  · rw [e]
  · rw [e]
    exact Hub.pageAt_hand w _ m

theorem State.snap_skipHanded (h : Hub) (q : Port) : ((s.skipHanded r h).dist q).snap = (h.dist q).snap := by
  obtain e | ⟨run, e⟩ := s.skipHanded_cases r h
  · rw [e]
  · rw [e]
    exact Hub.snap_hand h rfl q

end skipHanded

/-! ## The state the shots start from, and the state after them -/

/-- The slots allocated to the group of a rail. -/
def State.takenSlots (s : State) (r : Rail) : List Nat := (s.hub.pool.allocate (s.seq r).group.length).2

/-- The channels granted to the group of a rail. -/
def State.takenChans (s : State) (r : Rail) : List Chan := s.freeChans.take (s.seq r).group.length

/-- The state of a grant before its first shot: the slots allocated and the open skip run closed. -/
def State.prepared (s : State) (r : Rail) : State :=
  (s.withHub (s.hub.withPool (s.hub.pool.allocate (s.seq r).group.length).1)).closeSkip r

/-- The state of a grant after its last shot. -/
def State.afterShots (s : State) (r : Rail) (st : Step) : State :=
  State.fireShots (s.prepared r) r st (decide ((s.seq r).group.length = 2)) (s.seq r).group (s.takenChans r) (s.takenSlots r)

theorem State.grant_eq (s : State) (r : Rail) (st : Step) :
    s.grant r st =
      { (s.afterShots r st).setSeq r
          { (s.afterShots r st).seq r with state := .listening, windows := (s.seq r).group.length } with
        arb := ((s.afterShots r st).setSeq r
          { (s.afterShots r st).seq r with state := .listening, windows := (s.seq r).group.length }).arb.setReq r none } :=
  rfl

section grant
variable (s : State) (r : Rail) (st : Step)

theorem State.hub_grant : (s.grant r st).hub = (s.afterShots r st).hub := by
  rw [State.grant_eq]; exact State.hub_setSeq _ _ _

theorem State.chans_grant : (s.grant r st).chans = (s.afterShots r st).chans := by
  rw [State.grant_eq]; exact State.chans_setSeq _ _ _

theorem State.arb_grant : (s.grant r st).arb = (s.afterShots r st).arb.setReq r none := by
  rw [State.grant_eq]; exact congrArg (·.setReq r none) (State.arb_setSeq _ _ _)

theorem State.seq_grant : (s.grant r st).seq r =
    { (s.afterShots r st).seq r with state := .listening, windows := (s.seq r).group.length } := by
  cases r <;> rfl

theorem State.seq_grant_other : (s.grant r st).seq r.other = (s.afterShots r st).seq r.other := by
  cases r <;> rfl

end grant

/-- What a grant asks for: distinct blocks, a free channel for each, and a slot for each with 16 to spare. -/
structure State.Grantable (s : State) (r : Rail) : Prop where
  wf : s.hub.pool.wf = true
  nodup : (s.seq r).group.Nodup
  chans : (s.seq r).group.length ≤ s.freeChans.length
  slots : (s.seq r).group.length + 16 ≤ s.hub.pool.freeSlots

section prepared
variable {s : State} {r : Rail}

theorem State.consider_grants {st : Step} (g : s.Grantable r) (hr : s.arb.req r = some (s.seq r).group.length)
    (hc : (s.seq r).current = some st) : s.consider r = (s.grant r st, .granted) := by
  have slots : (s.seq r).group.length + Config.slotReserve ≤ s.hub.pool.freeSlots := g.slots
  simp only [State.consider, hr, hc, if_pos g.chans, if_pos slots]

theorem State.Grantable.allocated (g : s.Grantable r) :
    (s.takenSlots r).length = (s.seq r).group.length ∧ (s.takenSlots r).Nodup ∧
      (∀ n ∈ s.takenSlots r, n < 1024 ∧ s.hub.pool.slot n = none) ∧
      (s.hub.pool.allocate (s.seq r).group.length).1 =
        (s.takenSlots r).foldl (fun q n => q.putSlot n blankSlot) s.hub.pool ∧
      (s.hub.pool.allocate (s.seq r).group.length).1.wf = true ∧
      ∀ m, (s.hub.pool.allocate (s.seq r).group.length).1.pageAt m = s.hub.pool.pageAt m := by
  refine Pool.allocate_spec _ g.wf ?_
  have slots := g.slots
  unfold Pool.freeSlots Config.slotCount at slots
  omega

theorem State.seq_prepared : (s.prepared r).seq r = { s.seq r with skip := none } := by
  rw [State.prepared, State.seq_closeSkip, State.seq_withHub]

theorem State.prepared_frame :
    (s.prepared r).chans = s.chans ∧ (s.prepared r).arb = s.arb ∧ (s.prepared r).seq r.other = s.seq r.other := by
  obtain ⟨chans, arb, other⟩ :=
    (s.withHub (s.hub.withPool (s.hub.pool.allocate (s.seq r).group.length).1)).closeSkip_frame r
  exact ⟨chans, arb, other.trans (State.seq_withHub _ _ _)⟩

theorem State.sameOutside_prepared : SameOutside s (s.prepared r) :=
  (SameOutside.withHub s _).trans (sameOutside_closeSkip _ r)

theorem State.hub_prepared : (s.prepared r).hub =
    s.skipHanded r (s.hub.withPool (s.hub.pool.allocate (s.seq r).group.length).1) := by
  rw [State.prepared, State.hub_closeSkip, State.skipHanded_withHub, State.hub_withHub]

theorem State.snap_prepared (q : Port) : ((s.prepared r).hub.dist q).snap = (s.hub.dist q).snap := by
  rw [State.hub_prepared, State.snap_skipHanded, Hub.dist_withPool]

theorem State.Grantable.wf_prepared (g : s.Grantable r) : (s.prepared r).hub.pool.wf = true := by
  obtain ⟨-, -, -, -, wf, -⟩ := g.allocated
  rw [State.hub_prepared]
  exact s.wf_skipHanded r wf

theorem State.Grantable.pageAt_prepared (g : s.Grantable r) (m : Nat) :
    (s.prepared r).hub.pool.pageAt m = s.hub.pool.pageAt m := by
  obtain ⟨-, -, -, -, wf, pages⟩ := g.allocated
  rw [State.hub_prepared, State.pageAt_skipHanded _ _ wf, Hub.pool_withPool, pages]

theorem State.nodup_takenChans : (s.takenChans r).Nodup :=
  (List.Nodup.filter _ (by decide : allChans.Nodup)).sublist (List.take_sublist _ _)

theorem State.Grantable.length_takenChans (g : s.Grantable r) : (s.takenChans r).length = (s.seq r).group.length := by
  rw [State.takenChans, List.length_take, Nat.min_eq_left g.chans]

theorem State.Grantable.fired (g : s.Grantable r) (st : Step) :
    Fired r (s.prepared r) (s.afterShots r st) (s.seq r).group (s.takenChans r) (s.takenSlots r) := by
  obtain ⟨length, -, frees, -⟩ := g.allocated
  exact State.fired_fireShots g.wf_prepared (fun n hn => (frees n hn).1) g.length_takenChans length

end prepared

/-! ## The shot in a place of the group -/

theorem take_append_cons_drop {α : Type} {l : List α} {j : Nat} {x : α} (h : l[j]? = some x) :
    l.take j ++ x :: l.drop (j + 1) = l := by
  obtain ⟨hj, rfl⟩ := List.getElem?_eq_some_iff.1 h
  rw [List.cons_getElem_drop_succ, List.take_append_drop]

theorem notMem_of_nodup {α : Type} {l : List α} (nodup : l.Nodup) {j : Nat} {x : α} (h : l[j]? = some x) :
    x ∉ l.take j ∧ x ∉ l.drop (j + 1) := by
  rw [← take_append_cons_drop h, List.nodup_append'] at nodup
  obtain ⟨-, later, apart⟩ := nodup
  exact ⟨fun hx => apart hx List.mem_cons_self, (List.nodup_cons.1 later).1⟩

/-- The shot of the block `i` on the channel `c` into the slot `n`, `m` being the state it finds and `u` the state after
the whole group: its own writes stay, and it finds what the group found but for the pages of the slots `before`. -/
structure ShotOfGrant (r : Rail) (st : Step) (s m u : State) (i : BlockIx) (c : Chan) (n : Nat) (before : List Nat) :
    Prop where
  bank : m.bank = s.bank
  odo : m.odo = s.odo
  count : (m.seq r).fired[i] = (s.seq r).fired[i]
  fired : (u.seq r).fired[i] = (s.seq r).fired[i] + 1
  chan : u.chans[c] = s.chans[c].trigger s.bank r (m.planShot r i c n)
  slot : u.hub.pool.slot n =
    some (m.shotSlot r st (decide ((s.seq r).group.length = 2)) (m.planShot r i c n))
  pages : ∀ x, x ∈ m.hub.pool.usedPages ↔ x ∈ s.hub.pool.usedPages ++ before.filterMap u.hub.pool.pageAt
  snap : ((s.seq r).group.map (fun i' => (s.bank.block i').probe)).Nodup → ∀ q,
    ((m.hub.dist q).snap = .waiting (s.bank.block i).probe ↔ (s.hub.dist q).snap = .waiting (s.bank.block i).probe) ∧
    ((s.hub.dist q).snap = .waiting (s.bank.block i).probe →
      (u.hub.dist q).snap = .claimed (s.bank.block i).probe n)

/-- A page is in use before a shot when it was before the group or is a page of the shots before. -/
theorem State.Grantable.pages_at {s m u : State} {r : Rail} (g : s.Grantable r) {is is' : List BlockIx}
    {cs cs' : List Chan} {ns ns' : List Nat} (before : Fired r (s.prepared r) m is cs ns)
    (after : Fired r m u is' cs' ns') (free : ∀ n ∈ ns ++ ns', s.hub.pool.slot n = none) (apart : ns.Disjoint ns')
    (x : Nat) : x ∈ m.hub.pool.usedPages ↔ x ∈ s.hub.pool.usedPages ++ ns.filterMap u.hub.pool.pageAt := by
  have early : ∀ k ∈ ns, u.hub.pool.pageAt k = m.hub.pool.pageAt k := fun k hk => after.pageAt (apart hk)
  have late : ∀ k ∉ ns, m.hub.pool.pageAt k = s.hub.pool.pageAt k := fun k hk =>
    (before.pageAt hk).trans (g.pageAt_prepared k)
  rw [List.mem_append, Pool.mem_usedPages before.wf, Pool.mem_usedPages g.wf, List.mem_filterMap]
  constructor
  · rintro ⟨k, hk⟩
    by_cases taken : k ∈ ns
    · exact .inr ⟨k, taken, (early k taken).trans hk⟩
    · exact .inl ⟨k, (late k taken).symm.trans hk⟩
  · rintro (⟨k, hk⟩ | ⟨k, taken, hk⟩)
    · have other : k ∉ ns := fun taken => by
        rw [Pool.pageAt_of_free (free k (List.mem_append_left _ taken))] at hk
        cases hk
      exact ⟨k, (late k other).trans hk⟩
    · exact ⟨k, (early k taken).symm.trans hk⟩

theorem State.Grantable.shot_at {s : State} {r : Rail} (g : s.Grantable r) (st : Step) {j : Nat} {i : BlockIx} {c : Chan}
    {n : Nat} (hi : (s.seq r).group[j]? = some i) (hc : (s.takenChans r)[j]? = some c)
    (hn : (s.takenSlots r)[j]? = some n) :
    ∃ m, ShotOfGrant r st s m (s.afterShots r st) i c n ((s.takenSlots r).take j) := by
  obtain ⟨length, nodup, frees, -⟩ := g.allocated
  have sameLength := g.length_takenChans
  have small : ∀ n ∈ s.takenSlots r, n < 1024 := fun n hn => (frees n hn).1
  obtain ⟨m, before, after⟩ := State.fireShots_at (r := r) (st := st) (joined := decide ((s.seq r).group.length = 2))
    (is := (s.seq r).group.take j) (is' := (s.seq r).group.drop (j + 1)) (cs := (s.takenChans r).take j)
    (cs' := (s.takenChans r).drop (j + 1)) (ns := (s.takenSlots r).take j) (ns' := (s.takenSlots r).drop (j + 1))
    (i := i) (c := c) (n := n) g.wf_prepared (by rwa [take_append_cons_drop hn]) (by simp [sameLength]) (by simp [length])
    (by simp [sameLength]) (by simp [length])
  rw [take_append_cons_drop hi, take_append_cons_drop hc, take_append_cons_drop hn] at after
  change Fired r _ (s.afterShots r st) _ _ _ at after
  obtain ⟨iBefore, iAfter⟩ := notMem_of_nodup g.nodup hi
  obtain ⟨cBefore, cAfter⟩ := notMem_of_nodup State.nodup_takenChans hc
  obtain ⟨nBefore, nAfter⟩ := notMem_of_nodup nodup hn
  have outside := State.sameOutside_prepared.trans before.outside
  have count : (m.seq r).fired[i] = (s.seq r).fired[i] := by rw [before.fired i iBefore, State.seq_prepared]
  refine ⟨m, outside.bank, outside.odo, count, ?_, ?_, ?_, fun x => ?_, fun probes q => ?_⟩
  · rw [← count, after.fired i iAfter, State.seq_fireShot]
    simp [State.planShot]
  · rw [after.chans c cAfter, State.chans_fireShot, ← outside.bank]
    have same : m.chans[c] = s.chans[c] := (before.chans c cBefore).trans (by rw [State.prepared_frame.1])
    rw [← same]
    exact if_pos rfl
  · rw [after.slot n nAfter, State.pool_fireShot, Pool.slot_putSlot before.wf]
    exact if_pos rfl
  · have shot := m.fired_fireShot r st (decide ((s.seq r).group.length = 2)) (m.planShot r i c n) before.wf
      (small n (List.mem_of_getElem? hn))
    refine g.pages_at before (shot.append after) (fun k hk => (frees k ?_).2) ?_ x
    · rw [← take_append_cons_drop hn]
      exact hk
    · rw [← take_append_cons_drop hn] at nodup
      exact (List.nodup_append'.1 nodup).2.2
  · rw [← take_append_cons_drop hi, List.map_append, List.map_cons, List.nodup_append', List.nodup_cons] at probes
    obtain ⟨-, ⟨others', -⟩, others⟩ := probes
    have found : (s.hub.dist q).snap = .waiting (s.bank.block i).probe → (m.hub.dist q).snap = (s.hub.dist q).snap := by
      intro waits
      rw [← State.snap_prepared (s := s) (r := r) q] at waits ⊢
      refine before.snap q fun k hk e => ?_
      rw [waits, State.sameOutside_prepared.bank] at e
      exact others (List.mem_map_of_mem hk) (by rw [SnapEntry.waiting.inj e]; exact List.mem_cons_self)
    refine ⟨⟨fun h => ?_, fun h => (found h).trans h⟩, fun h => ?_⟩
    · rw [← State.snap_prepared (s := s) (r := r) q]
      exact before.snapWaits q _ h
    · have claimed : ((m.fireShot r st (decide ((s.seq r).group.length = 2)) (m.planShot r i c n)).hub.dist q).snap =
          .claimed (s.bank.block i).probe n := by
        rw [State.dist_fireShot, found h, h, outside.bank]
        exact SnapEntry.claim_waiting _ _
      refine (after.snap q fun k _ waits => ?_).trans claimed
      cases claimed.symm.trans waits

/-! ## What the shot decides (R71, R108) -/

theorem wantedExcerpt_eq (x : Block) (count : BitVec 32) (snapshot : Bool) :
    wantedExcerpt x count snapshot =
      if snapshot = true then some (if x.interval = 0 then 512 else x.excerptLen.count)
      else if x.interval ≠ 0 ∧ count.toNat % x.interval = 0 then some x.excerptLen.count
      else none := by
  simp only [wantedExcerpt, excerptDue, Bool.and_eq_true, decide_eq_true_eq]

/-- The lowest page not in use is the same for every list of the pages in use. -/
theorem Pool.firstFreePage_of_used {p : Pool} {used : List Nat} (h : ∀ x, x ∈ p.usedPages ↔ x ∈ used) :
    p.firstFreePage = (List.range 48).find? (fun x => !used.contains x) := by
  have same : ∀ x, p.usedPages.contains x = used.contains x := fun x => by
    rw [Bool.eq_iff_iff, List.contains_iff_mem, List.contains_iff_mem, h x]
  simp only [Pool.firstFreePage, same]
  rfl

section decisions
variable {r : Rail} {st : Step} {s m u : State} {i : BlockIx} {c : Chan} {n : Nat} {before : List Nat}

theorem ShotOfGrant.wanted_eq (h : ShotOfGrant r st s m u i c n before) :
    (m.planShot r i c n).wanted =
      if (m.planShot r i c n).snapshot = true then
        some (if (s.bank.block i).interval = 0 then 512 else (s.bank.block i).excerptLen.count)
      else if (s.bank.block i).interval ≠ 0 ∧ (s.seq r).fired[i].toNat % (s.bank.block i).interval = 0 then
        some (s.bank.block i).excerptLen.count
      else none := by
  rw [← h.bank, ← h.count]
  exact wantedExcerpt_eq _ _ _

theorem ShotOfGrant.page_eq (h : ShotOfGrant r st s m u i c n before) :
    (m.planShot r i c n).page =
      if (m.planShot r i c n).wanted.isSome then
        (List.range 48).find? (fun x => !(s.hub.pool.usedPages ++ before.filterMap u.hub.pool.pageAt).contains x)
      else none := by
  rw [← Pool.firstFreePage_of_used h.pages]
  rfl

theorem State.isNone_page_shotSlot (m : State) (r : Rail) (st : Step) (joined : Bool) (d : ShotPlan) :
    (m.shotSlot r st joined d).page.isNone = d.page.isNone := Option.isNone_map

theorem ShotOfGrant.slot_page_eq (h : ShotOfGrant r st s m u i c n before) (joined : Bool) :
    (m.shotSlot r st joined (m.planShot r i c n)).page =
      if (m.planShot r i c n).wanted.isSome then
        ((List.range 48).find? (fun x =>
          !(s.hub.pool.usedPages ++ before.filterMap u.hub.pool.pageAt).contains x)).map (fun x => { no := x, samples := [] })
      else none := by
  have page : (m.shotSlot r st joined (m.planShot r i c n)).page =
      (m.planShot r i c n).page.map (fun x => { no := x, samples := [] }) := rfl
  rw [page, h.page_eq]
  split <;> rfl

theorem ShotOfGrant.chan_eq (h : ShotOfGrant r st s m u i c n before) (joined : Bool) :
    u.chans[c] =
      { phase := .listening
        binding :=
          some { rail := r, block := i, probe := (s.bank.block i).probe, slot := n,
                 window := some (5 * (s.bank.probe (s.bank.block i).probe).fields.window), settle := none }
        eval := Evaluator.start (s.bank.probe (s.bank.block i).probe)
          (if (m.shotSlot r st joined (m.planShot r i c n)).page.isSome then (m.planShot r i c n).wanted else none)
          (5 * (s.bank.probe (s.bank.block i).probe).fields.window)
        fe :=
          some { probe := (s.bank.block i).probe, level := (s.bank.probe (s.bank.block i).probe).fields.level,
                 pulseWidth := (s.bank.probe (s.bank.block i).probe).fields.pulseWidth,
                 gain := (s.bank.probe (s.bank.block i).probe).fields.gain }
        triggers := s.chans[c].triggers + 1 } := by
  have page : (m.shotSlot r st joined (m.planShot r i c n)).page.isSome = (m.planShot r i c n).page.isSome :=
    Option.isSome_map
  rw [h.chan, page]
  rfl

theorem ShotOfGrant.snapshot_iff (h : ShotOfGrant r st s m u i c n before)
    (probes : ((s.seq r).group.map (fun i' => (s.bank.block i').probe)).Nodup) :
    (m.planShot r i c n).snapshot = true ↔ ∃ q, (s.hub.dist q).snap = .waiting (s.bank.block i).probe := by
  refine (Hub.snapshotWaits_iff _ _).trans (exists_congr fun q => ?_)
  rw [h.bank]
  exact (h.snap probes q).1

end decisions

end Sys2Proof.Machine

namespace Sys2Proof.Proofs
open Sys2Proof.Machine

/-- Settles O13: the shots are fired one after the other from the state in which the slots are allocated and the skip
run is closed, each changes only its own block's count, channel and slot and the entries of its probe, and so the state
after the group holds the writes of each. -/
theorem grantFiresTheGroup : Obligations.GrantFiresTheGroup := by
  rintro s r st k wf req current rfl nodup chans slots
  have g : s.Grantable r := ⟨wf, nodup, chans, slots⟩
  obtain ⟨length, distinct, frees, pool, -, -⟩ := g.allocated
  obtain ⟨chans₀, arb₀, other₀⟩ := State.prepared_frame (s := s) (r := r)
  have fired := g.fired st
  have outside := sameOutside_grant s r st
  have seq : (s.grant r st).seq r =
      { s.seq r with
        skip := none, fired := ((s.afterShots r st).seq r).fired, state := .listening
        windows := (s.seq r).group.length } := by
    rw [State.seq_grant, fired.seq, State.seq_prepared]
  have shot {j : Nat} {i : BlockIx} {c : Chan} {n : Nat} (hi : (s.seq r).group[j]? = some i)
      (hc : s.freeChans[j]? = some c) (hn : (s.takenSlots r)[j]? = some n) :=
    g.shot_at st hi ((List.getElem?_take_of_lt (List.getElem?_eq_some_iff.1 hi).1).trans hc) hn
  refine ⟨s.grant r st, State.consider_grants g req current, by rw [seq], by rw [seq], by rw [seq], by rw [seq]; exact current,
    by rw [seq], by rw [seq], by rw [seq], ?_, ?_, outside.plan, outside.odo, outside.gen, outside.coup, outside.run,
    fun i => ?_, fun c hc => ?_, s.takenSlots r, length, distinct, frees, ?_, fun q hq => ?_,
    fun j i c n hi hc hn => ?_⟩
  · rw [State.seq_grant_other, fired.other, other₀]
  · rw [State.arb_grant, fired.arb, arb₀]
  · rw [seq]
    split
    · next hi =>
      obtain ⟨j, hj, rfl⟩ := List.getElem_of_mem hi
      have hi := List.getElem?_eq_getElem hj
      have hc := List.getElem?_eq_getElem (Nat.lt_of_lt_of_le hj chans)
      have hn := List.getElem?_eq_getElem (Nat.lt_of_lt_of_eq hj length.symm)
      obtain ⟨m, h⟩ := shot hi hc hn
      exact h.fired
    · next hi => exact (fired.fired i hi).trans (by rw [State.seq_prepared])
  · rw [State.chans_grant, fired.chans c hc, chans₀]
  · have hub : (s.prepared r).hub = s.skipHanded r (s.hub.withPool
        ((s.takenSlots r).foldl (fun q n => q.putSlot n blankSlot) s.hub.pool)) := by
      rw [State.hub_prepared, pool]
    rw [State.hub_grant]
    dsimp only
    refine ⟨fired.waiting.trans ?_, fired.number.trans ?_, fired.lost.trans ?_, fun x hx => (fired.slot x hx).trans ?_,
      fun q => ⟨(fired.ctl q).trans ?_, (fired.dist q).trans ?_⟩⟩ <;> rw [hub] <;> rfl
  · rw [State.hub_grant]
    refine (fired.snap q fun i hi => ?_).trans (State.snap_prepared q)
    rw [State.snap_prepared, State.sameOutside_prepared.bank]
    exact hq i hi
  · obtain ⟨m, h⟩ := shot hi hc hn
    dsimp only
    rw [State.hub_grant, State.chans_grant]
    exact ⟨m.shotSlot r st (decide ((s.seq r).group.length = 2)) (m.planShot r i c n),
      m.grantFields r st (decide ((s.seq r).group.length = 2)) (m.planShot r i c n),
      (m.planShot r i c n).wanted, h.wanted_eq, h.chan_eq _, h.slot, rfl, rfl, by rw [← h.bank]; rfl, rfl, rfl,
      congrArg Odometer.position h.odo, rfl, by rw [← h.bank]; rfl, rfl, rfl, by rw [State.isNone_page_shotSlot]; rfl, h.slot_page_eq _,
      fun probes => ⟨h.snapshot_iff probes, fun q => (h.snap probes q).2⟩⟩

end Sys2Proof.Proofs
end

section
/-! SUPPORT. The edit right and the shadow bank: the refusal of a port that does not hold the right, the answer to a
holder's request, the loss of the right, and the start and the end of a shadow copy. Settled here: O38, O39, O44. -/

namespace Sys2Proof.Machine

/-! ## The requests that need the right (R24) -/

/-- A port that does not hold the right is refused before the body of its request is looked at. -/
theorem State.withRight_notHolder {s : State} {p : Port} (h : s.plan.holder ≠ some p)
    (body : State → State × Reply) : s.withRight p body = (s, .refused .notHolder) := if_neg h

theorem State.releaseRight_notHolder {s : State} {p : Port} (h : s.plan.holder ≠ some p) :
    s.releaseRight p = (s, .refused .notHolder) := if_neg h

/-- The kinds that need the right are listed in table 11.2. -/
theorem knownKind_of_needsRight {kind : Byte} (h : needsRight kind = true) : knownKind kind = true := by
  simp only [needsRight, List.contains_iff_mem, List.mem_cons, List.not_mem_nil, or_false] at h
  rcases h with h | h | h | h | h | h | h | h | h | h <;> subst h <;> decide

/-- A request that needs the right runs a rule that refuses NOT_HOLDER before every other test. -/
theorem exec_needsRight {c : Instr} {q : Request} (hq : requestOf c = some q) (formed : c.wellFormed = true)
    (needs : needsRight q.kind = true) :
    ∃ serve : State → State × Reply,
      (∀ s, exec c s = whileReleased (fun x => x.request q.port q.tag q.kind serve) s) ∧
      ∀ s : State, s.plan.holder ≠ some q.port → serve s = (s, .refused .notHolder) := by
  have right : ∀ (body : State → State × Reply) (s : State), s.plan.holder ≠ some q.port →
      s.withRight q.port body = (s, .refused .notHolder) := fun body _ h => State.withRight_notHolder h body
  cases c with
  | releaseEdit p tag => cases hq; exact ⟨_, fun _ => rfl, fun _ => State.releaseRight_notHolder⟩
  | writeStepSettings | writeProbe | writeGate | writeBlock | commit | abandon | setScaler | setPosition | setMarker =>
    cases hq; exact ⟨_, fun _ => rfl, right _⟩
  | unknownRequest p tag kind =>
    cases hq
    have listed : knownKind kind = true := knownKind_of_needsRight needs
    simp [Instr.wellFormed, listed] at formed
  | _ => cases hq <;> exact absurd needs Bool.false_ne_true

/-- The holder's request whose rule changes the part to `u` and answers DONE or PENDING restarts the timer (R24). -/
theorem State.request_holder {s : State} {p : Port} (h : s.takesOn p) (hold : s.plan.holder = some p) (tag kind : Byte)
    {body : State → State × Reply} (u : State) {r : Reply} (accepted : r.accepted = true)
    (hb : body (s.withHub (s.hub.setCtl p (s.hub.ctl p).taken)) = (u.withHub (u.hub.setCtl p (u.hub.ctl p).taken), r)) :
    ∃ t, whileReleased (fun x => x.request p tag kind fun t => t.withRight p body) s = .next t ∧
      u.restartIdle.answeredBy p (.response tag kind r) t := by
  refine State.request_answers h tag kind _ u.restartIdle r ?_
  have holder : (s.withHub (s.hub.setCtl p (s.hub.ctl p).taken)).plan.holder = some p := hold
  rw [State.withRight, if_pos holder, hb, if_pos accepted]
  rfl

/-! ## The right lost (R26), and the shadow copy (R40, R41) -/

theorem PlanStore.loseRight_eq (x : PlanStore) :
    x.loseRight = { x with holder := none, idleTimer := none,
                           commit := if x.commit = .none then .copying else x.commit } := by
  unfold PlanStore.loseRight
  split <;> next h => simp [PlanStore.startCopy, h]

/-- The Plan Store after ABANDON: a shadow copy is started and a pending commit dropped. -/
def PlanStore.abandoned (x : PlanStore) : PlanStore :=
  { x with
    commit := .copying
    pendingSig := if x.commit = .pending then none else x.pendingSig
    committer := if x.commit = .pending then none else x.committer }

theorem State.abandonBy_starts {s : State} (h : s.plan.commit ≠ .copying) :
    s.abandonBy = ({ s with plan := s.plan.abandoned }, .done .nothing) := by
  unfold State.abandonBy PlanStore.abandoned
  split
  · next e => simp [PlanStore.startCopy, e]
  · next e => simp [PlanStore.startCopy, e]
  · next e => exact absurd e h

theorem State.abandonBy_busy {s : State} (h : s.plan.commit = .copying) : s.abandonBy = (s, .refused .busy) := by
  simp [State.abandonBy, h]

/-- The active bank copied into the shadow bank leaves both banks equal to it. -/
theorem PlanStore.setShadow_activeBank (x : PlanStore) :
    x.setShadow x.activeBank = { x with bank0 := x.activeBank, bank1 := x.activeBank } := by
  unfold PlanStore.setShadow PlanStore.activeBank
  split <;> rfl

theorem PlanStore.copyDone_copying {x : PlanStore} (h : x.commit = .copying) :
    x.copyDone = { x with bank0 := x.activeBank, bank1 := x.activeBank, commit := .none } := by
  rw [PlanStore.copyDone, h]
  exact congrArg (fun y : PlanStore => { y with commit := .none }) x.setShadow_activeBank

theorem PlanStore.copyDone_idle {x : PlanStore} (h : x.commit ≠ .copying) : x.copyDone = x := by
  unfold PlanStore.copyDone
  split
  · next e => exact absurd e h
  · rfl
  · rfl

end Sys2Proof.Machine

namespace Sys2Proof.Proofs
open Sys2Proof.Machine

/-- Settles O38: every request that needs the right runs a rule that refuses a port without it before all else. -/
theorem notHolderComesFirst : Obligations.NotHolderComesFirst := by
  intro c q s hq formed needs takes other
  obtain ⟨serve, runs, refuses⟩ := exec_needsRight hq formed needs
  rw [runs]
  exact State.request_unchanged takes q.tag q.kind (refuses _ other)

/-- Settles O39: the claim by the holder that the part has, and the loss of the right upon its release and upon the
timer's expiry. -/
theorem theEditRightIsGrantedAndLost : Obligations.TheEditRightIsGrantedAndLost := by
  refine ⟨fun s p tag h free => ?_, fun s p q tag h hold other => ?_, fun s p tag h hold => ?_,
    fun s p n low hold timer => ?_⟩
  · refine State.request_answers h tag 0x0A _ _ _ ?_
    obtain free | hold := free
    · simp only [State.claim, State.plan_withHub, free]
      rfl
    · simp only [State.claim, State.plan_withHub, hold, if_true]
      rw [← hold]
      rfl
  · refine State.request_unchanged h tag 0x0A ?_
    simp only [State.claim, State.plan_withHub, hold, if_neg other]
  · refine State.request_answers h tag 0x10 _ _ _ ?_
    simp only [State.releaseRight, State.plan_withHub, hold, if_true, PlanStore.loseRight_eq]
    rfl
  · refine (whileReleased_released low State.idleExpiry).trans ?_
    simp only [State.idleExpiry, hold, timer, PlanStore.loseRight_eq]

/-- Settles O44: ABANDON by the commit state, and the copy's completion by whether a copy is in progress. -/
theorem abandonAndShadowCopy : Obligations.AbandonAndShadowCopy := by
  refine ⟨fun s p tag h hold notCopying => ?_, fun s p tag h hold copying => ?_, fun s low copying => ?_,
    fun s low notCopying => ?_⟩
  · exact State.request_holder h hold tag 0x16 { s with plan := s.plan.abandoned } rfl
      (State.abandonBy_starts notCopying)
  · exact State.request_refused h hold tag 0x16 fun k => State.abandonBy_busy copying
  · refine (whileReleased_released low fun t => { t with plan := t.plan.copyDone }).trans ?_
    rw [PlanStore.copyDone_copying copying]
  · refine (whileReleased_released low fun t => { t with plan := t.plan.copyDone }).trans ?_
    rw [PlanStore.copyDone_idle notCopying]

end Sys2Proof.Proofs
end

section
/-! SUPPORT. The four shadow-bank writes: a code or number in range carries its value, and a write whose fields pass
their checks replaces the item it addresses. Settled here: O40. -/

namespace Sys2Proof.Machine

/-! ## Codes and numbers carry their values (11.5) -/

@[simp] theorem StepSource.ofCode_code (x : StepSource) : StepSource.ofCode x.code = x := by cases x <;> rfl
@[simp] theorem GateKind.ofCode_code (x : GateKind) : GateKind.ofCode x.code = x := by cases x <;> rfl
@[simp] theorem ExcerptLen.ofCode_code (x : ExcerptLen) : ExcerptLen.ofCode x.code = x := by cases x <;> rfl
@[simp] theorem flagOf_flagByte (x : Bool) : flagOf (flagByte x) = x := by cases x <;> rfl

@[simp] theorem Priority.of_code (x : Priority) : (if x.code.toNat = 0 then Priority.fixed else .rotating) = x := by
  cases x <;> rfl

@[simp] theorem GateOrigin.of_code (x : GateOrigin) :
    (if x.code.toNat = 0 then GateOrigin.pulse else .interface) = x := by cases x <;> rfl

@[simp] theorem ReportRule.of_code (x : ReportRule) :
    (if x.code.toNat = 0 then ReportRule.always else .onEvent) = x := by cases x <;> rfl

theorem StepSource.code_le (x : StepSource) : x.code.toNat ≤ 2 := by cases x <;> decide
theorem Priority.code_le (x : Priority) : x.code.toNat ≤ 1 := by cases x <;> decide
theorem GateKind.code_le (x : GateKind) : x.code.toNat ≤ 2 := by cases x <;> decide
theorem GateOrigin.code_le (x : GateOrigin) : x.code.toNat ≤ 1 := by cases x <;> decide
theorem ReportRule.code_le (x : ReportRule) : x.code.toNat ≤ 1 := by cases x <;> decide
theorem ExcerptLen.code_le (x : ExcerptLen) : x.code.toNat ≤ 3 := by cases x <;> decide
theorem flagByte_le (x : Bool) : (flagByte x).toNat ≤ 1 := by cases x <;> decide

theorem toNat_linkByte (l : Link) : (linkByte l).toNat = (l.map blockNumber).getD 0 := by
  cases l with
  | none => rfl
  | some i =>
    have := i.isLt
    simp only [linkByte, blockNumber, BitVec.toNat_ofNat, Option.map_some, Option.getD_some]
    omega

theorem linkByte_le (l : Link) : (linkByte l).toNat ≤ 64 := by
  rw [toNat_linkByte]
  cases l with
  | none => exact Nat.zero_le 64
  | some i => exact i.isLt

@[simp] theorem linkOf_linkByte (l : Link) : linkOf (linkByte l) = l := by
  have number := toNat_linkByte l
  unfold linkOf
  cases l with
  | none => rfl
  | some i =>
    replace number : (linkByte (some i)).toNat = i.val + 1 := number
    have := i.isLt
    rw [dif_pos (by omega)]
    exact congrArg some (Fin.ext (by simp [number]))

@[simp] theorem placeOf_ofNat (i : Place) : placeOf (BitVec.ofNat 8 i.val) = i := by
  have := i.isLt
  apply Fin.ext
  simp only [placeOf, BitVec.toNat_ofNat, Fin.val_ofNat]
  omega

/-- A number no larger than a bound that the width holds is the value of its word. -/
theorem toNat_word {w x : Nat} (bound : Nat) (h : x ≤ bound) (fits : bound < 2 ^ w) :
    (BitVec.ofNat w x).toNat = x := by
  rw [BitVec.toNat_ofNat, Nat.mod_eq_of_lt (by omega)]

theorem toNat_probe (i : ProbeNo) : (BitVec.ofNat 8 i.val).toNat = i.val :=
  toNat_word 23 (Nat.le_of_lt_succ i.isLt) (by decide)

theorem toNat_place (i : Place) : (BitVec.ofNat 8 i.val).toNat = i.val :=
  toNat_word 3 (Nat.le_of_lt_succ i.isLt) (by decide)

theorem toNat_block (i : BlockIx) : (BitVec.ofNat 8 (i.val + 1)).toNat = i.val + 1 :=
  toNat_word 64 i.isLt (by decide)

/-! ## Fields in range pass their checks and stand for the values carried (R31 to R34) -/

theorem settings_carried {x : StepSettings} (h : x.ranged) :
    firstBad (settingsChecks x.source.code (BitVec.ofNat 16 x.pitch) (BitVec.ofNat 32 x.period) x.priority.code
        (linkByte x.headA) (linkByte x.headB)) = none ∧
      settingsOf x.source.code (BitVec.ofNat 16 x.pitch) (BitVec.ofNat 32 x.period) x.priority.code (linkByte x.headA)
        (linkByte x.headB) = x := by
  obtain ⟨pitch, pitch', period, period'⟩ := h
  have hp := toNat_word (w := 16) 400 pitch' (by decide)
  have ht := toNat_word (w := 32) 100000 period' (by decide)
  refine ⟨(firstBad_eq_none_iff _).2 ?_, ?_⟩
  · simp [settingsChecks_eq, hp, ht, pitch, pitch', period, period', x.source.code_le, x.priority.code_le,
      linkByte_le, -BitVec.toNat_ofNat]
  · simp [settingsOf, hp, ht, -BitVec.toNat_ofNat]

theorem probe_carried (i : ProbeNo) {x : ProbeFields} (h : x.ranged) :
    firstBad (probeChecks (BitVec.ofNat 8 i.val) (BitVec.ofNat 8 x.level) (BitVec.ofNat 16 x.pulseWidth)
        (BitVec.ofNat 8 x.gain) (BitVec.ofNat 16 x.window) (BitVec.ofNat 16 x.settle) (BitVec.ofNat 8 x.lossRun)
        (BitVec.ofNat 8 x.recoveryRun)) = none ∧
      probeFieldsOf (BitVec.ofNat 8 x.level) (BitVec.ofNat 16 x.pulseWidth) (BitVec.ofNat 8 x.gain)
        (BitVec.ofNat 16 x.window) (BitVec.ofNat 16 x.settle) (BitVec.ofNat 8 x.lossRun)
        (BitVec.ofNat 8 x.recoveryRun) = x := by
  obtain ⟨level, pulseWidth, gain, window, settle, lossRun, recoveryRun⟩ := h
  have h1 := toNat_word (w := 8) 8 level.2 (by decide)
  have h2 := toNat_word (w := 16) 500 pulseWidth.2 (by decide)
  have h3 := toNat_word (w := 8) 160 gain (by decide)
  have h4 := toNat_word (w := 16) 4000 window.2 (by decide)
  have h5 := toNat_word (w := 16) 500 settle (by decide)
  have h6 := toNat_word (w := 8) 15 lossRun.2 (by decide)
  have h7 := toNat_word (w := 8) 15 recoveryRun.2 (by decide)
  refine ⟨(firstBad_eq_none_iff _).2 ?_, ?_⟩
  · simp [probeChecks_eq, toNat_probe, h1, h2, h3, h4, h5, h6, h7, level, pulseWidth, gain, window, settle, lossRun,
      recoveryRun, Nat.le_of_lt_succ i.isLt, -BitVec.toNat_ofNat]
  · simp [probeFieldsOf, h1, h2, h3, h4, h5, h6, h7, -BitVec.toNat_ofNat]

theorem gate_carried (i : ProbeNo) (place : Place) {g : Gate} (h : g.ranged) :
    firstBad (gateChecks (BitVec.ofNat 8 i.val) (BitVec.ofNat 8 place.val) 1 g.kind.code g.origin.code
        (BitVec.ofNat 16 g.start) (BitVec.ofNat 16 g.width) (BitVec.ofNat 16 g.threshold)) = none ∧
      gateOf 1 g.kind.code g.origin.code (BitVec.ofNat 16 g.start) (BitVec.ofNat 16 g.width)
        (BitVec.ofNat 16 g.threshold) = some g := by
  obtain ⟨start, width, threshold⟩ := h
  have h1 := toNat_word (w := 16) 3999 start (by decide)
  have h2 := toNat_word (w := 16) 4000 width.2 (by decide)
  have h3 := toNat_word (w := 16) 1023 threshold.2 (by decide)
  refine ⟨(firstBad_eq_none_iff _).2 ?_, ?_⟩
  · simp [gateChecks_eq, toNat_probe, toNat_place, h1, h2, h3, start, width, threshold, g.kind.code_le,
      g.origin.code_le, Nat.le_of_lt_succ i.isLt, Nat.le_of_lt_succ place.isLt, -BitVec.toNat_ofNat]
  · simp [gateOf, h1, h2, h3, -BitVec.toNat_ofNat]

theorem emptyGate_passes (i : ProbeNo) (place : Place) (kind origin : Byte) (start width threshold : BitVec 16) :
    firstBad (gateChecks (BitVec.ofNat 8 i.val) (BitVec.ofNat 8 place.val) 0 kind origin start width threshold) =
      none := by
  refine (firstBad_eq_none_iff _).2 ?_
  simp [gateChecks_eq, toNat_probe, toNat_place, Nat.le_of_lt_succ i.isLt, Nat.le_of_lt_succ place.isLt,
    -BitVec.toNat_ofNat]

theorem block_carried (i : BlockIx) {x : Block} (h : x.ranged) :
    firstBad (blockChecks (BitVec.ofNat 8 (i.val + 1)) (flagByte x.inUse) (BitVec.ofNat 8 x.probe.val)
        (BitVec.ofNat 8 x.decimation) (BitVec.ofNat 8 x.phase) (flagByte x.join) x.report.code
        (BitVec.ofNat 8 x.interval) x.excerptLen.code (linkByte x.next)) = none ∧
      blockOf (flagByte x.inUse) (BitVec.ofNat 8 x.probe.val) (BitVec.ofNat 8 x.decimation) (BitVec.ofNat 8 x.phase)
        (flagByte x.join) x.report.code (BitVec.ofNat 8 x.interval) x.excerptLen.code (linkByte x.next) = x := by
  obtain ⟨decimation, phase, interval⟩ := h
  have h1 := toNat_word (w := 8) 16 decimation.2 (by decide)
  have h2 := toNat_word (w := 8) 15 phase (by decide)
  have h3 := toNat_word (w := 8) 255 interval (by decide)
  refine ⟨(firstBad_eq_none_iff _).2 ?_, ?_⟩
  · simp [blockChecks_eq, toNat_block, toNat_probe, h1, h2, h3, decimation, phase, interval, flagByte_le, linkByte_le,
      x.report.code_le, x.excerptLen.code_le, Nat.le_of_lt_succ x.probe.isLt, i.isLt, -BitVec.toNat_ofNat]
  · simp [blockOf, h1, h2, h3, -BitVec.toNat_ofNat]

/-- The holder's write in NONE with its fields in range replaces the shadow bank by its edit `nb`, restarts the timer
and is answered DONE (R30). -/
theorem State.write_done {s : State} {p : Port} (h : s.takesOn p) (hold : s.plan.holder = some p)
    (free : s.plan.commit = .none) (tag kind : Byte) {checks : List Bool} {edit : Bank → Bank} {nb : Bank}
    (ok : firstBad checks = none) (hb : edit s.plan.shadowBank = nb) :
    ∃ t, whileReleased (fun x => x.request p tag kind fun t => t.withRight p fun u => u.writeShadow checks edit) s =
        .next t ∧
      State.answeredBy { s with plan := { s.plan.setShadow nb with idleTimer := some 20 } } p
        (.response tag kind (.done .nothing)) t := by
  refine State.request_holder h hold tag kind { s with plan := s.plan.setShadow nb } rfl ?_
  simp only [State.writeShadow, State.plan_withHub, free, if_true, ok, hb]
  rfl

end Sys2Proof.Machine

namespace Sys2Proof.Proofs
open Sys2Proof.Machine

/-- Settles O40: the fields of each write carry the item, so its edit puts that item in the place addressed. -/
theorem shadowWritesReplaceOneItem : Obligations.ShadowWritesReplaceOneItem := by
  intro s p tag h hold free b done
  refine ⟨fun x hx => ?_, fun i x hx => ?_, fun i place g hg => ?_,
    fun i place kind origin start width threshold => ?_, fun i x hx => ?_⟩
  · obtain ⟨ok, carried⟩ := settings_carried hx
    exact State.write_done h hold free tag 0x11 ok (congrArg (fun y => { b with settings := y }) carried)
  · obtain ⟨ok, carried⟩ := probe_carried i hx
    exact State.write_done h hold free tag 0x12 ok (congrArg₂ b.setFields (probeOf_ofNat i) carried)
  · obtain ⟨ok, carried⟩ := gate_carried i place hg
    refine State.write_done h hold free tag 0x13 ok ?_
    rw [probeOf_ofNat, placeOf_ofNat, carried]
    rfl
  · refine State.write_done h hold free tag 0x13 (emptyGate_passes i place kind origin start width threshold) ?_
    rw [probeOf_ofNat, placeOf_ofNat]
    rfl
  · obtain ⟨ok, carried⟩ := block_carried i hx
    exact State.write_done h hold free tag 0x14 ok (congrArg₂ b.setBlock (blockIxOf_ofNat i) carried)

end Sys2Proof.Proofs
end

section
/-! SUPPORT. The swap: when it is due, what it exchanges, and that the steps issued upon it leave no boundary reached.
Settled here: O45. -/

namespace Sys2Proof.Machine

/-! ## The swap of the banks (R38, R60) -/

/-- A rail's sequencer at the swap: its fired counts are cleared (R82). -/
theorem State.seq_clearFired (s : State) (r : Rail) :
    s.clearFired.seq r = { s.seq r with fired := Vector.replicate 64 0 } := by
  cases r <;> rfl

/-- The swap sets the next boundary of a run one new pitch beyond the last one and leaves the rest of the generator. -/
theorem State.newPitch_eq (s : State) :
    s.newPitch =
      { s with gen := if s.gen.state = .off then s.gen
          else { s.gen with nextBoundary := s.gen.lastBoundary + s.bank.settings.pitch } } := by
  unfold State.newPitch
  split <;> rfl

theorem State.swapBanks_eq (s : State) (sig : BitVec 32) (p : Port) :
    let u := State.clearFired { s with plan := s.plan.swapped sig }
    s.swapBanks sig p =
      { u.handRecord (.plan u.plan.epoch sig u.plan.activeIx p) with
        gen := if s.gen.state = .off then s.gen
          else { s.gen with nextBoundary := s.gen.lastBoundary + s.plan.shadowBank.settings.pitch } } := by
  intro u
  rw [← PlanStore.activeBank_swapped s.plan sig]
  exact State.newPitch_eq _

/-! ## The steps issued upon the swap -/

theorem State.issueReached_still {s : State} (h : ¬ s.boundaryReached) (n : Nat) : State.issueReached n s = s := by
  cases n with
  | zero => rfl
  | succ n => exact if_neg h

theorem State.issueReached_succ {s : State} (h : s.boundaryReached) (n : Nat) :
    State.issueReached (n + 1) s = State.issueReached n s.advanceBoundary.issue.completeIfDue := if_pos h

/-- `t` has the frontier and the boundaries of `s`. -/
def State.SameBoundaries (s t : State) : Prop :=
  t.gen.frontier = s.gen.frontier ∧ t.gen.lastBoundary = s.gen.lastBoundary ∧ t.gen.nextBoundary = s.gen.nextBoundary

theorem State.SameBoundaries.of_gen {s t : State} (h : t.gen = s.gen) : s.SameBoundaries t := by
  unfold State.SameBoundaries
  simp [h]

theorem State.SameBoundaries.trans {s t u : State} (h : s.SameBoundaries t) (k : t.SameBoundaries u) :
    s.SameBoundaries u :=
  ⟨k.1.trans h.1, k.2.1.trans h.2.1, k.2.2.trans h.2.2⟩

theorem State.sameBoundaries_haltAtLimit (s : State) : s.SameBoundaries s.haltAtLimit := by
  unfold State.haltAtLimit
  split <;> exact ⟨rfl, rfl, rfl⟩

/-- An issued step moves no boundary (R58). -/
theorem State.sameBoundaries_issue (s : State) : s.SameBoundaries s.issue := by
  let st : Step := { no := s.gen.stepNo + 1, pos := s.odo.position }
  let t : State := { s with gen := { s.gen with stepNo := st.no } }
  have numbered : s.SameBoundaries t := ⟨rfl, rfl, rfl⟩
  have arrived : t.SameBoundaries ((t.stepArrives .a st).stepArrives .b st) :=
    .of_gen ((sameOutside_stepArrives t .a st).trans (sameOutside_stepArrives _ .b st)).gen
  have halted := (numbered.trans arrived).trans (State.sameBoundaries_haltAtLimit _)
  unfold State.issue
  dsimp only
  split
  · exact halted.trans (.of_gen (sameOutside_pass _).gen)
  · exact halted

theorem State.sameBoundaries_complete (s : State) : s.SameBoundaries s.complete := by
  have closed : s.SameBoundaries ((s.closeSkip .a).closeSkip .b) :=
    .of_gen ((sameOutside_closeSkip s .a).trans (sameOutside_closeSkip _ .b)).gen
  exact closed.trans ⟨rfl, rfl, rfl⟩

theorem State.sameBoundaries_completeIfDue (s : State) : s.SameBoundaries s.completeIfDue := by
  unfold State.completeIfDue
  split
  · exact s.sameBoundaries_complete
  · exact ⟨rfl, rfl, rfl⟩

/-- Issuing as many steps as there are pitches between the last boundary and F leaves no boundary reached: each step
moves the boundaries up by one pitch (R60). -/
theorem State.issueReached_exhausts {s : State} (pitch : 1 ≤ s.bank.settings.pitch)
    (next : s.gen.nextBoundary = s.gen.lastBoundary + s.bank.settings.pitch) {n : Nat} (enough : s.reachedCount ≤ n) :
    ¬ (State.issueReached n s).boundaryReached := by
  induction n generalizing s with
  | zero =>
    rintro ⟨-, -, reached⟩
    have few : (s.gen.frontier.toInt - s.gen.lastBoundary).toNat < s.bank.settings.pitch :=
      (Nat.div_eq_zero_iff_lt pitch).1 (Nat.le_zero.1 enough)
    change (s.gen.nextBoundary : Int) ≤ s.gen.frontier.toInt at reached
    omega
  | succ n ih =>
    by_cases h : s.boundaryReached
    · rw [State.issueReached_succ h]
      obtain ⟨frontier, last, boundary⟩ :=
        (State.sameBoundaries_issue s.advanceBoundary).trans (State.sameBoundaries_completeIfDue _)
      have bank : s.advanceBoundary.issue.completeIfDue.bank = s.bank := by simp [State.bank]
      refine ih (by rw [bank]; exact pitch) ?_ ?_
      · rw [boundary, last, bank]
        rfl
      · have reached : (s.gen.nextBoundary : Int) ≤ s.gen.frontier.toInt := h.2.2
        have less : (s.gen.frontier.toInt - s.gen.nextBoundary).toNat =
            (s.gen.frontier.toInt - s.gen.lastBoundary).toNat - s.bank.settings.pitch := by omega
        unfold State.reachedCount at enough ⊢
        rw [Nat.div_eq_sub_div pitch (by omega), ← less] at enough
        rw [frontier, last, bank]
        exact Nat.le_of_succ_le_succ enough
    · rwa [State.issueReached_still h]

/-- The swap leaves no boundary reached. -/
theorem State.swap_exhausts {s : State} {sig : BitVec 32} {p : Port} (hs : s.plan.pendingSig = some sig)
    (hp : s.plan.committer = some p) (pitch : 1 ≤ s.plan.shadowBank.settings.pitch) : ¬ s.swap.boundaryReached := by
  have bank : (s.swapBanks sig p).bank = s.plan.shadowBank := by
    rw [State.bank, State.plan_swapBanks, PlanStore.activeBank_swapped]
  have gen := congrArg State.gen (s.swapBanks_eq sig p)
  rw [State.swap_eq hs hp]
  by_cases off : s.gen.state = .off
  · have still : ¬ (s.swapBanks sig p).boundaryReached := by
      rintro ⟨issuing, -⟩
      simp [gen, off] at issuing
    rwa [State.issueReached_still still]
  · refine State.issueReached_exhausts (by rwa [bank]) ?_ (Nat.le_refl _)
    simp [gen, off, bank]

/-- A step issued, in the order of its parts: it is numbered, reaches rail A and rail B, and the requests of the cycles
it begins form one pass (R58, R62, R65, R92). -/
theorem State.issue_eq (s : State) :
    let st : Step := { no := s.gen.stepNo + 1, pos := s.odo.position }
    let u := (State.stepArrives (State.stepArrives { s with gen := { s.gen with stepNo := st.no } } .a st) .b
      st).haltAtLimit
    s.issue = if s.seqA.state = .waiting ∨ s.seqB.state = .waiting then u.pass else u := by
  simp [State.issue]

end Sys2Proof.Machine

namespace Sys2Proof.Proofs
open Sys2Proof.Machine

/-- Settles O45: the swap as one equation, and the steps it issues by the boundaries they use up. -/
theorem swapExchangesTheBanks : Obligations.SwapExchangesTheBanks := by
  refine ⟨fun s sig p => ?_, State.swapDue_iff, fun s idle => by simp [State.swapIfDue, idle],
    fun s sig p due hs hp => ?_, fun s => rfl, fun n s h => State.issueReached_still h n,
    fun n s h => State.issueReached_succ h n, fun s => rfl, State.issue_eq⟩
  · exact ⟨State.clearFired { s with plan := s.plan.swapped sig }, rfl, PlanStore.activeBank_swapped s.plan sig,
      PlanStore.shadowBank_swapped s.plan sig, State.seq_clearFired _, rfl, s.swapBanks_eq sig p⟩
  · have swaps : s.swapIfDue = s.swap := if_pos due
    rw [swaps]
    exact ⟨⟨_, State.swap_eq hs hp⟩, State.swap_exhausts hs hp⟩

end Sys2Proof.Proofs
end

section
/-! SUPPORT. The end of a run: STOP RUN as one equation, from its channels, its shots and its skip runs, and the
completion with the order of what follows a cycle's end. Settled here: O48. -/

namespace Sys2Proof.Machine

/-! ## A vector replaced place by place -/

/-- A vector in which the item of each place listed has been replaced by a function of it. -/
def replaceAt {α : Type} {n : Nat} (f : α → α) (l : List (Fin n)) (v : Vector α n) : Vector α n :=
  l.foldl (fun (w : Vector α n) (i : Fin n) => w.set i (f w[i])) v

theorem getElem_set_fin {α : Type} {n : Nat} (v : Vector α n) (i j : Fin n) (x : α) :
    (v.set i x)[j] = if j = i then x else v[j] := by
  simp only [Fin.getElem_fin, Vector.getElem_set, Fin.ext_iff, eq_comm]

theorem getElem_replaceAt {α : Type} {n : Nat} (f : α → α) {l : List (Fin n)} (hl : l.Nodup) (v : Vector α n)
    (j : Fin n) : (replaceAt f l v)[j] = if j ∈ l then f v[j] else v[j] := by
  induction l generalizing v with
  | nil => rfl
  | cons i l ih =>
    obtain ⟨fresh, nodup⟩ := List.nodup_cons.1 hl
    rw [replaceAt, List.foldl_cons, ← replaceAt, ih nodup, getElem_set_fin]
    by_cases e : j = i
    · subst e
      simp [fresh]
    · simp [e]

theorem replaceAt_all {α : Type} {n : Nat} (f : α → α) (v : Vector α n) :
    replaceAt f (List.finRange n) v = v.map f := by
  apply Vector.ext
  intro i hi
  have at_i := getElem_replaceAt f (List.nodup_finRange n) v ⟨i, hi⟩
  rw [if_pos (List.mem_finRange _)] at at_i
  simpa using at_i

/-! ## The channels and the shots of a stop (R84, R97, R149) -/

/-- The slot of the shot that a stop drops from a channel: a LISTENING one's. -/
def Channel.dropped (x : Channel) : Option Nat :=
  if x.phase = .listening then x.binding.map (fun b => b.slot) else none

/-- A channel after a stop. -/
def Channel.aborted (x : Channel) : Channel :=
  if x.phase = .free then x
  else { x.release with eval := if x.phase = .listening ∧ x.binding.isSome then Evaluator.empty else x.eval }

theorem State.abortChan_eq (s : State) (c : Chan) :
    s.abortChan c =
      (s.withHub (s.chans[c].dropped.toList.foldl Hub.abortShot s.hub)).setChan c s.chans[c].aborted := by
  have self : s.setChan c s.chans[c] = s := by simp [State.setChan]
  unfold State.abortChan
  generalize s.chans[c] = x at self ⊢
  obtain ⟨phase, binding, eval, fe, triggers⟩ := x
  cases phase with
  | free => exact self.symm
  | listening => cases binding <;> rfl
  | settling => rfl
  | held => rfl

/-- The slots of the shots that a stop drops from the channels listed. -/
def State.droppedFrom (s : State) (l : List Chan) : List Nat := l.filterMap (fun c => s.chans[c].dropped)

/-- A stop reaches the channels listed. -/
theorem State.abortChans_eq (s : State) {l : List Chan} (hl : l.Nodup) :
    l.foldl State.abortChan s =
      { s with
        hub := (s.droppedFrom l).foldl Hub.abortShot s.hub
        chans := replaceAt Channel.aborted l s.chans } := by
  induction l generalizing s with
  | nil => rfl
  | cons c l ih =>
    obtain ⟨fresh, nodup⟩ := List.nodup_cons.1 hl
    have others : (s.abortChan c).droppedFrom l = s.droppedFrom l := by
      refine List.filterMap_congr fun d hd => ?_
      rw [State.abortChan_eq, State.chans_setChan_of, if_neg (fun e : d = c => fresh (e ▸ hd))]
      rfl
    have first : s.droppedFrom (c :: l) = s.chans[c].dropped.toList ++ s.droppedFrom l := by
      unfold State.droppedFrom
      rw [List.filterMap_cons]
      cases s.chans[c].dropped <;> rfl
    rw [List.foldl_cons, ih _ nodup, others, first, List.foldl_append, State.abortChan_eq]
    rfl

/-! ## Aborted shots -/

theorem Hub.abortShot_ctl (h : Hub) (n : Nat) (q : Port) : (h.abortShot n).ctl q = h.ctl q := by
  simp [Hub.abortShot, allPorts, Hub.unclaimAt]

theorem Hub.abortShot_dist (h : Hub) (n : Nat) (q : Port) :
    (h.abortShot n).dist q = { h.dist q with snap := (h.dist q).snap.unclaim n } := by
  simp only [Hub.abortShot, allPorts, List.foldl_cons, List.foldl_nil, Hub.unclaimAt, Hub.dist_setDist]
  fin_cases q <;> simp

/-- The shots aborted free their slots, and return the snapshot entries bound to them (R84, R149). -/
theorem Hub.abortShots_spec (l : List Nat) (h : Hub) :
    (l.foldl Hub.abortShot h).pool = l.foldl Pool.freeSlot h.pool ∧
      ∀ q, (l.foldl Hub.abortShot h).ctl q = h.ctl q ∧
        (l.foldl Hub.abortShot h).dist q = { h.dist q with snap := l.foldl SnapEntry.unclaim (h.dist q).snap } := by
  induction l generalizing h with
  | nil => exact ⟨rfl, fun q => ⟨rfl, rfl⟩⟩
  | cons n l ih =>
    obtain ⟨pool, ports⟩ := ih (h.abortShot n)
    refine ⟨pool, fun q => ⟨(ports q).1.trans (h.abortShot_ctl n q), (ports q).2.trans ?_⟩⟩
    rw [Hub.abortShot_dist]
    rfl

theorem SnapEntry.unclaims_none (l : List Nat) : l.foldl SnapEntry.unclaim .none = .none := by
  induction l with
  | nil => rfl
  | cons n l ih => exact ih

theorem SnapEntry.unclaims_waiting (l : List Nat) (i : ProbeNo) :
    l.foldl SnapEntry.unclaim (.waiting i) = .waiting i := by
  induction l with
  | nil => rfl
  | cons n l ih => exact ih

theorem SnapEntry.unclaims_claimed (l : List Nat) (i : ProbeNo) (n : Nat) :
    l.foldl SnapEntry.unclaim (.claimed i n) = if n ∈ l then .waiting i else .claimed i n := by
  induction l with
  | nil => rfl
  | cons m l ih =>
    by_cases e : n = m
    · subst e
      simp [SnapEntry.unclaim, SnapEntry.unclaims_waiting]
    · simp [SnapEntry.unclaim, e, ih]

/-! ## The skip runs closed (R80) -/

theorem State.closeSkip_eq (s : State) (r : Rail) :
    s.closeSkip r = (s.setSeq r { s.seq r with skip := none }).withHub (s.skipHanded r s.hub) := by
  rw [← State.hub_closeSkip]
  cases h : (s.seq r).skip with
  | none =>
    have self : s.setSeq r { s.seq r with skip := none } = s := by rw [← h]; cases r <;> rfl
    rw [self]
    simp [State.closeSkip, h]
  | some run => simp [State.closeSkip, h, State.handRecord]

/-- Both open skip runs closed, that of rail A before that of rail B. -/
theorem State.closeSkips_eq (s : State) :
    (s.closeSkip .a).closeSkip .b =
      { s with
        seqA := { s.seqA with skip := none }
        seqB := { s.seqB with skip := none }
        hub := s.skipHanded .b (s.skipHanded .a s.hub) } := by
  rw [State.closeSkip_eq _ .b, State.closeSkip_eq s .a]
  rfl

/-! ## The two ends of a run (R156, R157) -/

/-- The run's completion (R156). -/
theorem State.complete_eq (s : State) :
    s.complete =
      { s with
        run := { s.run with state := .idle }
        seqA := { s.seqA with state := .off, skip := none }
        seqB := { s.seqB with state := .off, skip := none }
        gen := { s.gen with state := .off, timer := none }
        coup := { s.coup with sprayA := false, sprayB := false }
        hub := (s.skipHanded .b (s.skipHanded .a s.hub)).hand
          (s.mkRec (.run .completed s.run.label s.gen.stepNo)) } := by
  unfold State.complete
  rw [State.closeSkips_eq]
  rfl

/-- The hub after the shots in the air have been aborted. -/
def State.abortedHub (s : State) : Hub := (s.droppedFrom allChans).foldl Hub.abortShot s.hub

/-- An accepted STOP RUN (R157). -/
theorem State.stop_eq (s : State) :
    s.stop =
      { s with
        run := { s.run with state := .idle }
        seqA := { s.seqA with state := .off, current := none, waiting := none, walk := none, group := [],
                              windows := 0, skip := none }
        seqB := { s.seqB with state := .off, current := none, waiting := none, walk := none, group := [],
                              windows := 0, skip := none }
        gen := { s.gen with state := .off, timer := none }
        chans := replaceAt Channel.aborted allChans s.chans
        arb := { s.arb with reqA := none, reqB := none }
        coup := { s.coup with sprayA := false, sprayB := false }
        hub := (s.skipHanded .b (s.skipHanded .a s.abortedHub.drain)).hand
          (s.mkRec (.run .stopped s.run.label s.gen.stepNo)) } := by
  have nodup : allChans.Nodup := by decide
  unfold State.stop State.abortGroups
  rw [State.closeSkips_eq, State.abortChans_eq s nodup]
  rfl

/-! ## The answer to a STOP RUN -/

theorem Hub.keepsCtl_drainUpTo (p : Port) (fuel : Nat) (h : Hub) : Hub.KeepsCtl p h (Hub.drainUpTo fuel h) := by
  induction fuel generalizing h with
  | zero => exact .refl p h
  | succ fuel ih =>
    unfold Hub.drainUpTo
    split
    · exact ((Hub.KeepsCtl.same (by rfl)).trans (Hub.keepsCtl_place p _ _ _)).trans (ih _)
    · exact .refl p h

theorem State.keepsCtl_skipHanded (s : State) (p : Port) (r : Rail) (h : Hub) :
    Hub.KeepsCtl p h (s.skipHanded r h) := by
  obtain e | ⟨run, e⟩ := s.skipHanded_cases r h
  · exact .same (by rw [e])
  · rw [e]
    exact h.keepsCtl_hand p _

theorem State.keepsCtl_stop (s : State) (p : Port) : Hub.KeepsCtl p s.hub s.stop.hub := by
  have aborted : Hub.KeepsCtl p s.hub s.abortedHub := .same ((Hub.abortShots_spec _ _).2 p).1
  rw [State.stop_eq]
  exact (((aborted.trans (Hub.keepsCtl_drainUpTo p _ _)).trans (s.keepsCtl_skipHanded p .a _)).trans
    (s.keepsCtl_skipHanded p .b _)).trans (Hub.keepsCtl_hand p _ _)

/-- A request whose rule, on the port that has taken it, gives the part `v` with the port's controller kept and the
reply `r`, is answered by `r` in `v`. -/
theorem State.request_kept {s : State} {p : Port} (h : s.takesOn p) (tag kind : Byte) {serve : State → State × Reply}
    {v : State} {r : Reply} (hs : serve (s.withHub (s.hub.setCtl p (s.hub.ctl p).taken)) = (v, r))
    (kept : v.hub.ctl p = (s.hub.ctl p).taken) :
    ∃ t, whileReleased (fun x => x.request p tag kind serve) s = .next t ∧ v.answeredBy p (.response tag kind r) t := by
  refine ⟨_, whileReleased_released h.1 _, ?_⟩
  have ready : (v.hub.ctl p).state = .ready := by rw [kept]; exact PortCtl.state_taken h.2
  have empty : (v.hub.ctl p).rx = [] := by rw [kept]; exact PortCtl.rx_taken _
  rw [State.request, State.receive_takes h, State.respond, hs]
  exact congrArg v.withHub (Hub.answer_of_ready ready empty tag kind r)

/-! ## When a run ends, and what comes first (R62, R83, R155) -/

theorem State.haltAtLimit_eq (s : State) :
    s.haltAtLimit =
      if s.gen.stepNo.toNat = (if s.run.limit = 0 then 4294967295 else s.run.limit.toNat) then
        { s with gen := { s.gen with state := .halted, timer := none }, run := { s.run with state := .finishing } }
      else s := by
  have last : s.limitReached = true ↔
      s.gen.stepNo.toNat = if s.run.limit = 0 then 4294967295 else s.run.limit.toNat := by
    unfold State.limitReached
    split
    · rw [decide_eq_true_iff, ← BitVec.toNat_inj]
      rfl
    · exact decide_eq_true_iff
  unfold State.haltAtLimit
  simp only [last]

theorem Rail.forall_iff (P : Rail → Prop) : (∀ r, P r) ↔ P .a ∧ P .b :=
  ⟨fun h => ⟨h .a, h .b⟩, fun h r => by cases r; exacts [h.1, h.2]⟩

theorem State.completionDue_iff (s : State) : s.completionDue = true ↔ s.run.state = .finishing ∧
    ∀ r, (s.seq r).state = .waiting ∧ (s.seq r).waiting = none := by
  simp [State.completionDue, State.seq, Rail.forall_iff, and_assoc]

/-- Where a run's end is due the rails rest as a swap needs them, so no swap is due only while no commit is pending. -/
theorem State.commit_of_completionDue {s : State} (ends : s.completionDue = true) (noSwap : s.swapDue = false) :
    s.plan.commit ≠ .pending := by
  intro pending
  obtain ⟨-, rest⟩ := s.completionDue_iff.1 ends
  have due : s.swapDue = true := s.swapDue_iff.2 ⟨pending, fun r => .inr (rest r)⟩
  rw [due] at noSwap
  cases noSwap

theorem State.afterCycles_noEnd {s : State} (h : s.completionDue = false) : s.afterCycles = s.swapIfDue := by
  simp [State.afterCycles, State.completeIfDue, h]

theorem State.afterCycles_ends {s : State} (ends : s.completionDue = true) (noSwap : s.swapDue = false) :
    s.afterCycles = s.complete := by
  have after : s.complete.swapDue = false := by
    have commit := State.commit_of_completionDue ends noSwap
    simp [State.swapDue, commit]
  simp [State.afterCycles, State.completeIfDue, State.swapIfDue, ends, noSwap, after]

theorem State.afterCycles_both {s : State} (ends : s.completionDue = true) (swaps : s.swapDue = true) :
    let t := { s with freeCount := s.freeCount + 1 }
    s.afterCycles =
      if Config.swapBeforeCompletion s.freeCount then t.swapIfDue.completeIfDue else t.complete.swapIfDue := by
  intro t
  have due : t.swapIfDue = t.swap := if_pos swaps
  rw [due]
  simp only [State.afterCycles, ends, swaps, Bool.and_self, if_true]
  rfl

end Sys2Proof.Machine

namespace Sys2Proof.Proofs
open Sys2Proof.Machine

/-- Settles O48: the stop and the completion as equations, and what follows a cycle's end by which of the two is due. -/
theorem runsEndStoppedOrCompleted : Obligations.RunsEndStoppedOrCompleted := by
  refine ⟨fun s p tag h active => ?_, fun s p tag h idle => ?_, State.haltAtLimit_eq, State.completionDue_iff,
    State.complete_eq, fun s => rfl, fun s => State.afterCycles_noEnd, fun s => State.afterCycles_ends,
    fun s ends swaps => ⟨fun first => ?_, fun last => ?_⟩⟩
  · let v := s.withHub (s.hub.setCtl p (s.hub.ctl p).taken)
    have ready : (v.hub.ctl p).state ≠ .heldTake := by
      simp [v, PortCtl.state_taken h.2]
    obtain ⟨pool, ports⟩ := Hub.abortShots_spec (s.droppedFrom allChans) v.hub
    have served : v.stopBy = (v.stop.swapIfDue.endPool, .done .nothing) := if_neg active
    have kept : v.stop.swapIfDue.endPool.hub.ctl p = (s.hub.ctl p).taken :=
      ((((v.keepsCtl_stop p).trans (State.keepsCtl_swapIfDue p _)).trans (State.keepsCtl_endPool p _)) ready).trans
        (Hub.ctl_setCtl_self _ _ _)
    obtain ⟨t, run, answered⟩ := State.request_kept h tag 0x0C served kept
    refine ⟨s.droppedFrom allChans, v.abortedHub, replaceAt Channel.aborted allChans s.chans, v.stop, t, rfl, pool,
      fun q => (ports q).1.trans (Hub.ctl_setCtl _ _ _ _), fun q => (ports q).2.trans ?_, fun c => ?_, ?_, run,
      answered⟩
    · rw [show v.hub.dist q = s.hub.dist q from Hub.dist_setCtl _ _ _ _]
      refine congrArg (fun e => { s.hub.dist q with snap := e }) ?_
      cases (s.hub.dist q).snap with
      | none => exact SnapEntry.unclaims_none _
      | waiting i => exact SnapEntry.unclaims_waiting _ i
      | claimed i n => exact SnapEntry.unclaims_claimed _ i n
    · have every : c ∈ allChans := by revert c; decide
      rw [getElem_replaceAt _ (by decide), if_pos every]
      rfl
    · rw [State.stop_eq]
      rfl
  · exact State.request_unchanged h tag 0x0C (if_pos idle)
  · exact (State.afterCycles_both ends swaps).trans (if_pos first)
  · exact (State.afterCycles_both ends swaps).trans (if_neg (by simp [last]))

end Sys2Proof.Proofs
end

section
/-! SUPPORT. The port reset: the holds the port leaves, with their records, and a port at its reset values, which wants
nothing and holds no TAKE, so that nothing that is done for others reaches it. Settled here: O34. -/

namespace Sys2Proof.Machine

/-! ## Hold sets (R163) -/

/-- A port is alone in a hold set when it is in it and the set is empty without it. -/
theorem portAlone_iff (p : Port) (x : PortSet) : x = portAdd p 0 ↔ portIn p x = true ∧ portRemove p x = 0 := by
  revert p x
  decide

theorem portRemove_of_not_portIn {p : Port} {x : PortSet} (h : portIn p x = false) : portRemove p x = x := by
  revert p x
  decide

/-- The hub after a port has left the hold set of a probe: a HOLD RELEASED record if the set becomes empty. -/
def State.releasedHub (s : State) (p : Port) (h : Hub) (i : ProbeNo) : Hub :=
  if s.run.holds[i] = portAdd p 0 then h.hand (s.mkRec (.hold i .released p)) else h

theorem State.unhold_eq (s : State) (p : Port) (i : ProbeNo) :
    s.unhold p i =
      { s with
        run := { s.run with holds := s.run.holds.set i (portRemove p s.run.holds[i]) }
        hub := s.releasedHub p s.hub i } := by
  unfold State.unhold State.releasedHub
  have alone := portAlone_iff p s.run.holds[i]
  by_cases inSet : portIn p s.run.holds[i] = true
  · have left : (s.setHold i (portRemove p s.run.holds[i])).run.holds[i] = portRemove p s.run.holds[i] := by
      simp [State.setHold]
    rw [if_pos inSet]
    dsimp only
    rw [left]
    by_cases empty : portRemove p s.run.holds[i] = 0
    · rw [if_pos empty, if_pos (alone.2 ⟨inSet, empty⟩)]
      rfl
    · rw [if_neg empty, if_neg fun e => empty (alone.1 e).2]
      rfl
  · have stays : s.run.holds.set i (portRemove p s.run.holds[i]) = s.run.holds := by
      rw [portRemove_of_not_portIn (Bool.eq_false_iff.2 inSet)]
      simp
    rw [if_neg inSet, stays, if_neg fun e => inSet (alone.1 e).1]

/-- A port leaves the hold sets of the probes listed, in their order. -/
theorem State.unholds_eq (s : State) (p : Port) {l : List ProbeNo} (hl : l.Nodup) :
    l.foldl (fun t i => t.unhold p i) s =
      { s with
        run := { s.run with holds := replaceAt (portRemove p) l s.run.holds }
        hub := l.foldl (s.releasedHub p) s.hub } := by
  induction l generalizing s with
  | nil => rfl
  | cons i l ih =>
    obtain ⟨fresh, nodup⟩ := List.nodup_cons.1 hl
    have others : ∀ h : Hub, l.foldl ((s.unhold p i).releasedHub p) h = l.foldl (s.releasedHub p) h := by
      refine fun h => List.foldl_ext _ _ _ fun k j hj => ?_
      have same : (s.unhold p i).run.holds[j] = s.run.holds[j] := by
        rw [State.unhold_eq]
        exact (getElem_set_fin _ _ _ _).trans (if_neg fun e : j = i => fresh (e ▸ hj))
      unfold State.releasedHub
      rw [same, State.unhold_eq]
      rfl
    rw [List.foldl_cons, ih _ nodup, others, State.unhold_eq]
    rfl

theorem State.dropHolds_eq (s : State) (p : Port) :
    s.dropHolds p =
      { s with
        run := { s.run with holds := s.run.holds.map (portRemove p) }
        hub := (List.finRange 24).foldl (s.releasedHub p) s.hub } := by
  rw [State.dropHolds, State.unholds_eq s p (List.nodup_finRange 24), replaceAt_all]

theorem State.dropRight_eq (s : State) (p : Port) :
    s.dropRight p =
      { s with plan :=
          if s.plan.holder = some p then
            { s.plan with holder := none, idleTimer := none,
                          commit := if s.plan.commit = .none then .copying else s.plan.commit }
          else s.plan } := by
  unfold State.dropRight
  rw [PlanStore.loseRight_eq]
  split <;> rfl

/-! ## A port at its reset values -/

/-- The port is at its reset values (R136, R164). -/
def Hub.AtReset (p : Port) (h : Hub) : Prop := h.ports[p] = PortUnit.reset

/-- At its reset values a port wants no record: it has no subscription, no general reception and no snapshot (R138). -/
theorem PortDist.reset_wants_nothing (n : Nat) (r : Rec) : PortDist.reset.wants n r = false := by
  have noHit : ∀ key : BitVec 6, PortDist.reset.subs.toList.any (fun x => x.hits key) = false := by
    intro key
    simp [PortDist.reset, Subscription.reset, Subscription.hits]
  unfold PortDist.wants
  split
  · rw [noHit]
    simp [PortDist.reset, SnapEntry.boundTo]
  · rfl

section atReset
variable {p : Port}

theorem Hub.AtReset.setPort {h : Hub} (a : h.AtReset p) {q : Port} (hq : p ≠ q) (u : PortUnit) :
    (h.setPort q u).AtReset p := by
  unfold Hub.AtReset
  rw [Hub.ports_setPort, if_neg hq]
  exact a

theorem Hub.AtReset.withPool {h : Hub} (a : h.AtReset p) (x : Pool) : (h.withPool x).AtReset p := a

theorem Hub.AtReset.ctl {h : Hub} (a : h.AtReset p) : h.ctl p = PortCtl.reset := congrArg PortUnit.ctl a

theorem Hub.AtReset.dist {h : Hub} (a : h.AtReset p) : h.dist p = PortDist.reset := congrArg PortUnit.dist a

/-- A port that every operation of a list leaves at its reset values is left there by the list. -/
theorem Hub.AtReset.foldl {α : Type} {f : Hub → α → Hub} (keeps : ∀ h x, h.AtReset p → (f h x).AtReset p) (l : List α)
    {h : Hub} (a : h.AtReset p) : (l.foldl f h).AtReset p := by
  induction l generalizing h with
  | nil => exact a
  | cons x l ih => exact ih (keeps h x a)

theorem Hub.AtReset.offerTo {acc : Hub × Nat} (a : acc.1.AtReset p) (n : Nat) (seq : BitVec 32) (r : Rec) (q : Port) :
    (Hub.offerTo n seq r acc q).1.AtReset p := by
  unfold Hub.offerTo
  split
  · next wants =>
    have hq : p ≠ q := by
      rintro rfl
      rw [a.dist, PortDist.reset_wants_nothing] at wants
      cases wants
    exact a.setPort hq _
  · exact a

theorem Hub.AtReset.offers (n : Nat) (seq : BitVec 32) (r : Rec) (l : List Port) {acc : Hub × Nat}
    (a : acc.1.AtReset p) : (l.foldl (Hub.offerTo n seq r) acc).1.AtReset p := by
  induction l generalizing acc with
  | nil => exact a
  | cons q l ih => exact ih (a.offerTo n seq r q)

theorem Hub.AtReset.sendTake {h : Hub} (a : h.AtReset p) {q : Port} (hq : p ≠ q) (t : TakeJob) :
    (h.sendTake q t).AtReset p := by
  unfold Hub.sendTake
  split
  · exact a.setPort hq _
  · split
    · split <;> exact a.setPort hq _
    · exact a.setPort hq _
    · split
      · exact (a.setPort hq _).setPort hq _
      · exact a.setPort hq _

theorem Hub.AtReset.startNext {h : Hub} (a : h.AtReset p) {q : Port} (hq : p ≠ q) : (h.startNext q).AtReset p := by
  unfold Hub.startNext
  split
  · exact a
  · split
    · exact a.setPort hq _
    · split
      · exact a.setPort hq _
      · split
        · split
          · exact a.sendTake hq _
          · exact a
        · exact a

theorem Hub.AtReset.wake {h : Hub} (a : h.AtReset p) (q : Port) : (h.wake q).AtReset p := by
  unfold Hub.wake
  split
  · next held =>
    have hq : p ≠ q := by
      rintro rfl
      rw [a.ctl] at held
      cases held.1
    exact Hub.AtReset.startNext (a.setPort hq _) hq
  · exact a

theorem Hub.AtReset.place {h : Hub} (a : h.AtReset p) (n : Nat) (r : Rec) : (h.place n r).AtReset p := by
  unfold Hub.place Hub.fanOut
  refine Hub.AtReset.foldl (fun h q a => a.wake q) _ ?_
  exact Hub.AtReset.withPool (Hub.AtReset.offers n _ r _ (acc := (_, 0)) ((a.withPool _).withPool _)) _

theorem Hub.AtReset.hand {h : Hub} (a : h.AtReset p) (r : Rec) : (h.hand r).AtReset p := by
  unfold Hub.hand
  split
  · exact a.place _ r
  · split <;> exact a.withPool _

theorem Hub.AtReset.drainUpTo (fuel : Nat) {h : Hub} (a : h.AtReset p) : (Hub.drainUpTo fuel h).AtReset p := by
  induction fuel generalizing h with
  | zero => exact a
  | succ fuel ih =>
    unfold Hub.drainUpTo
    split
    · exact ih ((a.withPool _).place _ _)
    · exact a

theorem Hub.AtReset.releaseEntry {h : Hub} (a : h.AtReset p) (e : Entry) : (h.releaseEntry e).AtReset p := by
  cases e with
  | marker g => exact a
  | ref n =>
    show (h.releaseRef n).AtReset p
    unfold Hub.releaseRef
    split
    · split
      · exact (a.withPool _).drainUpTo _
      · exact a.withPool _
    · exact a

theorem Hub.AtReset.endPool {s : State} (a : s.hub.AtReset p) : s.endPool.hub.AtReset p := by
  unfold State.endPool
  split
  · split
    · exact a
    · rw [State.hub_withHub]
      exact (a.withPool _).place _ _
  · exact a

/-- The references that a port's queue held released: the port stays at its reset values meanwhile (R151, R171). -/
theorem Hub.atReset_resetPort (h : Hub) (p : Port) : (h.resetPort p).AtReset p := by
  refine Hub.AtReset.foldl (fun h e a => a.releaseEntry e) _ ?_
  exact (Hub.ports_setPort h p p _).trans (if_pos rfl)

theorem Hub.AtReset.released {h : Hub} (a : h.AtReset p) (s : State) (i : ProbeNo) :
    (s.releasedHub p h i).AtReset p := by
  unfold State.releasedHub
  split
  · exact a.hand _
  · exact a

end atReset

end Sys2Proof.Machine

namespace Sys2Proof.Proofs
open Sys2Proof.Machine

/-- Settles O34: the four steps of R171 as one equation, and the port at its reset values through all of them. -/
theorem portResetClearsThePort : Obligations.PortResetClearsThePort := by
  refine ⟨fun h n => rfl, fun h g => rfl, ?_, fun s p absent => ?_⟩
  · intro s p low present h t
    have run : exec (.portReset p) s = .next (s.presentFalls p) :=
      whileReleased_released low fun u => u.presentFalls p
    have falls : s.presentFalls p = t := by
      rw [State.presentFalls, if_neg present, State.dropRight_eq, State.dropHolds_eq]
      rfl
    refine ⟨run.trans (congrArg _ falls), Hub.AtReset.endPool (p := p) ?_⟩
    exact Hub.AtReset.foldl (fun k i a => a.released s i) _ (s.hub.atReset_resetPort p)
  · have still : s.presentFalls p = s := if_pos absent
    show whileReleased (fun u => u.presentFalls p) s = .next s
    simp [whileReleased, still]

end Sys2Proof.Proofs
end

section
/-! SUPPORT. What every command does but for the pool, the ports and the Plan Store: a relation on states that does not
look at these holds along every step if it holds along the events of the track, the channels and the run. -/

namespace Sys2Proof.Machine

/-- A reflexive and transitive relation on states that does not look at the pool and the ports, the Plan Store and the
hold sets, and that holds along each operation of the model that changes anything else. -/
structure OperationsKeep (R : State → State → Prop) : Prop where
  refl : ∀ s, R s s
  trans : ∀ {s t u}, R s t → R t u → R s u
  hub : ∀ s h, R s (s.withHub h)
  plan : ∀ (s : State) (x : PlanStore), R s { s with plan := x }
  holdSet : ∀ s i x, R s (s.setHold i x)
  hardwareReset : ∀ s : State, R s { State.reset with freeCount := s.freeCount, pending := s.pending }
  resetRelease : ∀ s encA encB m0 m1 present t, execResetRelease encA encB m0 m1 present s = .next t → R s t
  transition : ∀ s a b, R s (s.transition a b)
  speedWindow : ∀ s, R s s.speedWindow
  markerChange : ∀ s m level, R s (s.markerChange m level)
  timerExpiry : ∀ s, R s s.timerExpiry
  windowEnd : ∀ s c first rest, R s (s.windowEnd c first rest)
  settleEnd : ∀ s c, R s (s.settleEnd c)
  afterCycles : ∀ s, R s s.afterCycles
  reform : ∀ s i, R s (s.reform i)
  setScaler : ∀ s num den, R s (s.setScalerBy num den).1
  setPosition : ∀ s position, R s (s.setPositionBy position).1
  setMarker : ∀ s marker enabled edge lockout action load,
    R s (s.setMarkerBy marker enabled edge lockout action load).1
  start : ∀ s limit label, R s (s.startBy limit label).1
  stop : ∀ s, R s s.stopBy.1

namespace OperationsKeep
variable {R : State → State → Prop} (k : OperationsKeep R)
include k

theorem handRecord (s : State) (b : Body) : R s (s.handRecord b) := k.hub s _

theorem endPool (s : State) : R s s.endPool := by
  rw [s.endPool_eq]
  exact k.hub s _

/-! ## Requests -/

theorem receive (s : State) (p : Port) (tag kind : Byte) {act : State → State} (h : ∀ t, R t (act t)) :
    R s (s.receive p tag kind act) := by
  unfold State.receive
  split
  · exact k.refl s
  · exact k.hub s _
  · exact k.trans (k.hub s _) (h _)
  · exact k.trans (k.hub s _) (h _)

theorem request (s : State) (p : Port) (tag kind : Byte) {serve : State → State × Reply}
    (h : ∀ t, R t (serve t).1) : R s (s.request p tag kind serve) :=
  k.receive s p tag kind fun t => k.trans (h t) (k.hub _ _)

/-- A request that needs the edit right changes what its rule changes, and the idle timer. -/
theorem rightRequest (s : State) (p : Port) (tag kind : Byte) {body : State → State × Reply}
    (h : ∀ t, R t (body t).1) : R s (s.request p tag kind fun t => t.withRight p body) := by
  refine k.request s p tag kind fun t => ?_
  unfold State.withRight
  split
  · dsimp only
    split
    · exact k.trans (h t) (k.plan _ _)
    · exact h t
  · exact k.refl t

theorem writeShadow (s : State) (checks : List Bool) (edit : Bank → Bank) : R s (s.writeShadow checks edit).1 := by
  unfold State.writeShadow
  split
  · split
    · exact k.refl s
    · exact k.plan s _
  · exact k.refl s

theorem claim (s : State) (p : Port) : R s (s.claim p).1 := by
  unfold State.claim
  split
  · exact k.plan s _
  · split
    · exact k.plan s _
    · exact k.refl s

theorem releaseRight (s : State) (p : Port) : R s (s.releaseRight p).1 := by
  unfold State.releaseRight
  split
  · exact k.plan s _
  · exact k.refl s

theorem commitBy (s : State) (p : Port) : R s (s.commitBy p).1 := by
  unfold State.commitBy
  split
  · split
    · exact k.refl s
    · exact k.trans (k.trans (k.plan s _) (k.afterCycles _)) (k.endPool _)
  · exact k.refl s

theorem abandonBy (s : State) : R s s.abandonBy.1 := by
  unfold State.abandonBy
  split
  · exact k.plan s _
  · exact k.plan s _
  · exact k.refl s

theorem snapshotBy (s : State) (p : Port) (probe : Byte) : R s (s.snapshotBy p probe).1 := by
  unfold State.snapshotBy
  split
  · exact k.refl s
  · split
    · exact k.hub s _
    · exact k.hub s _
    · exact k.refl s

theorem readEntry (s : State) (role item index : Byte) : R s (s.readEntry role item index).1 := by
  unfold State.readEntry
  split <;> exact k.refl s

theorem holdBy (s : State) (p : Port) (probe : Byte) : R s (s.holdBy p probe).1 := by
  unfold State.holdBy
  split
  · exact k.refl s
  · dsimp only
    unfold State.hold
    split
    · exact k.trans (k.trans (k.trans (k.holdSet s _ _) (k.handRecord _ _)) (k.reform _ _)) (k.endPool _)
    · exact k.holdSet s _ _

theorem unhold (s : State) (p : Port) (i : ProbeNo) : R s (s.unhold p i) := by
  unfold State.unhold
  split
  · dsimp only
    split
    · exact k.trans (k.holdSet s _ _) (k.handRecord _ _)
    · exact k.holdSet s _ _
  · exact k.refl s

theorem unholdBy (s : State) (p : Port) (probe : Byte) : R s (s.unholdBy p probe).1 := by
  unfold State.unholdBy
  split
  · exact k.refl s
  · split
    · exact k.trans (k.unhold s _ _) (k.endPool _)
    · exact k.refl s

theorem doTake (s : State) (p : Port) (tag count : Byte) : R s (s.doTake p tag count) :=
  k.receive s p tag _ fun t => k.hub t _

theorem doUnknown (s : State) (p : Port) (tag kind : Byte) : R s (s.doUnknown p tag kind) :=
  k.request s p tag kind k.refl

theorem doConfigurePort (s : State) (p : Port) (tag : Byte) (hold threshold : BitVec 16) :
    R s (s.doConfigurePort p tag hold threshold) :=
  k.request s p tag _ fun t => by
    split
    · exact k.refl t
    · exact k.hub t _

theorem doSubscribe (s : State) (p : Port) (tag entry matchVal mask enabled : Byte) :
    R s (s.doSubscribe p tag entry matchVal mask enabled) :=
  k.request s p tag _ fun t => by
    split
    · exact k.refl t
    · exact k.hub t _

theorem doGeneral (s : State) (p : Port) (tag flag : Byte) : R s (s.doGeneral p tag flag) :=
  k.request s p tag _ fun t => by
    split
    · exact k.refl t
    · exact k.hub t _

/-- A complete frame acts as the request of its kind (R165, R166). -/
theorem handleFrame (s : State) (p : Port) (tag kind : Byte) (payload : List Byte) :
    R s (s.handleFrame p tag kind payload) :=
  State.handleFrame_cases (P := R s)
    (identify := k.request s p tag _ k.refl)
    (readStatus := k.request s p tag _ k.refl)
    (configurePort := k.doConfigurePort s p tag)
    (subscribe := k.doSubscribe s p tag)
    (general := k.doGeneral s p tag)
    (take := k.doTake s p tag)
    (snapshot := fun _ => k.request s p tag _ fun t => k.snapshotBy t p _)
    (cancelSnapshot := k.request s p tag _ fun t => k.hub t _)
    (readPlanEntry := fun _ _ _ => k.request s p tag _ fun t => k.readEntry t _ _ _)
    (claimEdit := k.request s p tag _ fun t => k.claim t p)
    (startRun := fun _ _ => k.request s p tag _ fun t => k.start t _ _)
    (stopRun := k.request s p tag _ k.stop)
    (holdProbe := fun _ => k.request s p tag _ fun t => k.holdBy t p _)
    (releaseProbe := fun _ => k.request s p tag _ fun t => k.unholdBy t p _)
    (releaseEdit := k.request s p tag _ fun t => k.releaseRight t p)
    (writeStepSettings := fun _ _ _ _ _ _ => k.rightRequest s p tag _ fun t => k.writeShadow t _ _)
    (writeProbe := fun _ _ _ _ _ _ _ _ => k.rightRequest s p tag _ fun t => k.writeShadow t _ _)
    (writeGate := fun _ _ _ _ _ _ _ _ => k.rightRequest s p tag _ fun t => k.writeShadow t _ _)
    (writeBlock := fun _ _ _ _ _ _ _ _ _ _ => k.rightRequest s p tag _ fun t => k.writeShadow t _ _)
    (commit := k.rightRequest s p tag _ fun t => k.commitBy t p)
    (abandon := k.rightRequest s p tag _ k.abandonBy)
    (setScaler := fun _ _ => k.rightRequest s p tag _ fun t => k.setScaler t _ _)
    (setPosition := fun _ => k.rightRequest s p tag _ fun t => k.setPosition t _)
    (setMarker := fun _ _ _ _ _ _ => k.rightRequest s p tag _ fun t => k.setMarker t _ _ _ _ _ _)
    (kind := kind) (unknown := k.doUnknown s p tag kind) (payload := payload)

/-! ## The receive side and the events of a port -/

theorem framingError (s : State) (p : Port) : R s (s.framingError p) := k.hub s _

theorem frameComplete (s : State) (p : Port) (len : Byte) (body : List Byte) : R s (s.frameComplete p len body) := by
  have handled : ∀ tag kind payload, R s ((s.setRx p []).handleFrame p tag kind payload) := fun tag kind payload =>
    k.trans (k.hub s _) (k.handleFrame _ p tag kind payload)
  unfold State.frameComplete
  dsimp only
  split
  · split
    · split
      · split
        · exact handled _ _ _
        · exact k.framingError s p
      · exact handled _ _ _
    · exact k.framingError s p
  · exact k.framingError s p

theorem receiveChar (s : State) (p : Port) (c : Byte) : R s (s.receiveChar p c) := by
  unfold State.receiveChar
  split
  · split
    · exact k.hub s _
    · exact k.refl s
  · split
    · exact k.hub s _
    · exact k.framingError s p
  · split
    · exact k.hub s _
    · exact k.frameComplete s p _ _

/-- What each item of a list does is related, and so is what the list does. -/
theorem foldl {α : Type} {f : State → α → State} (h : ∀ s x, R s (f s x)) (l : List α) (s : State) :
    R s (l.foldl f s) := by
  induction l generalizing s with
  | nil => exact k.refl s
  | cons x l ih => exact k.trans (h s x) (ih _)

theorem receiveChars (s : State) (p : Port) (chars : List Byte) : R s (s.receiveChars p chars) := by
  unfold State.receiveChars
  split
  · exact k.refl s
  · exact k.foldl (fun t c => k.receiveChar t p c) chars s

theorem gapTimeout (s : State) (p : Port) : R s (s.gapTimeout p) := by
  unfold State.gapTimeout
  split
  · exact k.refl s
  · exact k.framingError s p

theorem idleExpiry (s : State) : R s s.idleExpiry := by
  unfold State.idleExpiry
  split
  · exact k.plan s _
  · exact k.refl s

theorem heldExpiry (s : State) (p : Port) : R s (s.heldExpiry p) := by
  unfold State.heldExpiry
  split
  · exact k.hub s _
  · exact k.refl s

theorem presentRises (s : State) (p : Port) : R s (s.presentRises p) := by
  unfold State.presentRises
  split
  · exact k.hub s _
  · exact k.refl s

theorem dropRight (s : State) (p : Port) : R s (s.dropRight p) := by
  unfold State.dropRight
  split
  · exact k.plan s _
  · exact k.refl s

theorem presentFalls (s : State) (p : Port) : R s (s.presentFalls p) := by
  unfold State.presentFalls
  split
  · exact k.refl s
  · have dropped := k.trans (k.hub s (s.hub.resetPort p)) (k.foldl (fun t i => k.unhold t p i) (List.finRange 24) _)
    exact k.trans (k.trans dropped (k.dropRight _ p)) (k.endPool _)

theorem sent (s : State) (p : Port) : R s (s.sent p) := by
  unfold State.sent
  split
  · exact k.refl s
  · exact k.hub s _
  · exact k.hub s _
  · split
    · exact k.hub s _
    · exact k.trans (k.trans (k.hub s _) (k.endPool _)) (k.hub _ _)

/-! ## Commands -/

theorem whileReleased {f : State → State} (h : ∀ s, R s (f s)) {s t : State}
    (e : Machine.whileReleased f s = .next t) : R s t := by
  cases e
  split
  · exact k.refl s
  · exact h s

/-- The relation holds along every command. -/
theorem exec {c : Instr} {s t : State} (e : Machine.exec c s = .next t) : R s t := by
  cases c with
  | hardwareReset => cases e; exact k.hardwareReset s
  | resetRelease encA encB m0 m1 present => exact k.resetRelease s encA encB m0 m1 present t e
  | encoderTransition a b => exact k.whileReleased (fun s => k.transition s a b) e
  | speedWindowEnd => exact k.whileReleased k.speedWindow e
  | markerEdge m level => exact k.whileReleased (fun s => k.markerChange s m level) e
  | stepTimerExpiry => exact k.whileReleased k.timerExpiry e
  | channelWindowEnd c first rest =>
    exact k.whileReleased (fun s => k.trans (k.windowEnd s c first rest) (k.endPool _)) e
  | channelSettleEnd c => exact k.whileReleased (fun s => k.trans (k.settleEnd s c) (k.endPool _)) e
  | shadowCopyCompletion => exact k.whileReleased (fun s => k.plan s _) e
  | editIdleTimerExpiry => exact k.whileReleased k.idleExpiry e
  | heldTakeExpiry p => exact k.whileReleased (fun s => k.heldExpiry s p) e
  | presentAsserted p => exact k.whileReleased (fun s => k.presentRises s p) e
  | portReset p => exact k.whileReleased (fun s => k.presentFalls s p) e
  | frameError p chars => exact k.whileReleased (fun s => k.receiveChars s p chars) e
  | interCharacterGapTimeout p => exact k.whileReleased (fun s => k.gapTimeout s p) e
  | unknownRequest p tag kind =>
    refine k.whileReleased (f := fun t => if knownKind kind then t else t.doUnknown p tag kind) (fun s => ?_) e
    split
    · exact k.refl s
    · exact k.doUnknown s p tag kind
  | busyRefusal p tag kind =>
    refine k.whileReleased
      (f := fun t => if (t.hub.ctl p).state = .answering then t.receive p tag kind (fun u => u) else t) (fun s => ?_) e
    split
    · exact k.receive s p tag kind k.refl
    · exact k.refl s
  | frameSent p => exact k.whileReleased (fun s => k.sent s p) e
  | identify p tag => exact k.whileReleased (fun s => k.request s p tag _ k.refl) e
  | readStatus p tag => exact k.whileReleased (fun s => k.request s p tag _ k.refl) e
  | configurePort p tag hold threshold => exact k.whileReleased (fun s => k.doConfigurePort s p tag hold threshold) e
  | subscribe p tag entry matchVal mask enabled =>
    exact k.whileReleased (fun s => k.doSubscribe s p tag entry matchVal mask enabled) e
  | general p tag flag => exact k.whileReleased (fun s => k.doGeneral s p tag flag) e
  | take p tag count => exact k.whileReleased (fun s => k.doTake s p tag count) e
  | snapshot p tag probe => exact k.whileReleased (fun s => k.request s p tag _ fun t => k.snapshotBy t p probe) e
  | cancelSnapshot p tag => exact k.whileReleased (fun s => k.request s p tag _ fun t => k.hub t _) e
  | readPlanEntry p tag role item index =>
    exact k.whileReleased (fun s => k.request s p tag _ fun t => k.readEntry t role item index) e
  | claimEdit p tag => exact k.whileReleased (fun s => k.request s p tag _ fun t => k.claim t p) e
  | releaseEdit p tag => exact k.whileReleased (fun s => k.request s p tag _ fun t => k.releaseRight t p) e
  | writeStepSettings p tag => exact k.whileReleased (fun s => k.rightRequest s p tag _ fun t => k.writeShadow t _ _) e
  | writeProbe p tag => exact k.whileReleased (fun s => k.rightRequest s p tag _ fun t => k.writeShadow t _ _) e
  | writeGate p tag => exact k.whileReleased (fun s => k.rightRequest s p tag _ fun t => k.writeShadow t _ _) e
  | writeBlock p tag => exact k.whileReleased (fun s => k.rightRequest s p tag _ fun t => k.writeShadow t _ _) e
  | commit p tag => exact k.whileReleased (fun s => k.rightRequest s p tag _ fun t => k.commitBy t p) e
  | abandon p tag => exact k.whileReleased (fun s => k.rightRequest s p tag _ k.abandonBy) e
  | setScaler p tag num den => exact k.whileReleased (fun s => k.rightRequest s p tag _ fun t => k.setScaler t num den) e
  | setPosition p tag position =>
    exact k.whileReleased (fun s => k.rightRequest s p tag _ fun t => k.setPosition t position) e
  | setMarker p tag => exact k.whileReleased (fun s => k.rightRequest s p tag _ fun t => k.setMarker t _ _ _ _ _ _) e
  | startRun p tag limit label => exact k.whileReleased (fun s => k.request s p tag _ fun t => k.start t limit label) e
  | stopRun p tag => exact k.whileReleased (fun s => k.request s p tag _ k.stop) e
  | holdProbe p tag probe => exact k.whileReleased (fun s => k.request s p tag _ fun t => k.holdBy t p probe) e
  | releaseProbe p tag probe => exact k.whileReleased (fun s => k.request s p tag _ fun t => k.unholdBy t p probe) e

/-- The relation holds along every step, if it does not look at the queue of commands. -/
theorem step (queue : ∀ (s : State) (l : List Instr), R s { s with pending := l }) {s t : State}
    (e : Machine.step s = .next t) : R s t := by
  unfold Machine.step at e
  split at e
  · cases e; exact k.refl s
  · exact k.trans (queue s _) (k.exec e)

end OperationsKeep

end Sys2Proof.Machine
end

section
/-! SUPPORT. What an operation on one rail leaves alone: everything outside the sequencers, and the other rail with its
request; and what it does to the phase of its rail. -/

namespace Sys2Proof.Machine

/-! ## The phase of a rail -/

/-- What a rail sequencer is doing: its state and its current step (R64). -/
structure RailPhase where
  state : SeqState
  current : Option Step

/-- A rail that is OFF or WAITING has no current step. -/
def RailPhase.settled (x : RailPhase) : Prop := x.state = .off ∨ x.state = .waiting → x.current = none

/-- From a settled phase a rail comes to a settled one, and it is OFF only if it was. -/
def RailPhase.Moves (x y : RailPhase) : Prop := x.settled → y.settled ∧ (y.state = .off ↔ x.state = .off)

theorem RailPhase.Moves.refl (x : RailPhase) : x.Moves x := fun h => ⟨h, Iff.rfl⟩

theorem RailPhase.Moves.of_eq {x y : RailPhase} (h : y = x) : x.Moves y := h ▸ .refl x

theorem RailPhase.Moves.trans {x y z : RailPhase} (h : x.Moves y) (k : y.Moves z) : x.Moves z := fun hx =>
  have hy := h hx
  have hz := k hy.1
  ⟨hz.1, hz.2.trans hy.2⟩

theorem RailPhase.settled_of_busy {x : RailPhase} (h : x.state = .requesting ∨ x.state = .listening) : x.settled := by
  intro off
  rcases h with h | h <;> simp [h] at off

/-- A rail that is at work in its cycle, or about to begin one, comes to a settled phase that is not OFF. -/
theorem RailPhase.Moves.on {x y : RailPhase} (hx : x.settled → x.state ≠ .off) (hy : y.settled) (on : y.state ≠ .off) :
    x.Moves y := fun h => ⟨hy, fun c => absurd c on, fun c => absurd c (hx h)⟩

/-- A settled rail with a current step is in its cycle. -/
theorem RailPhase.on_of_current {x : RailPhase} {st : Step} (h : x.current = some st) : x.settled → x.state ≠ .off := by
  intro settled off
  rw [settled (.inl off)] at h
  cases h

def Sequencer.phase (x : Sequencer) : RailPhase := { state := x.state, current := x.current }

/-! ## Operations on one rail -/

theorem Rail.eq_other_of_ne {q r : Rail} (h : q ≠ r) : q = r.other := by
  cases q <;> cases r <;> simp_all [Rail.other]

/-- `t` comes from `s` by work on the rail `r`: outside the sequencers, and at the other rail and its request, nothing
has changed, and the phase of `r` has moved. -/
structure State.WorksOn (r : Rail) (s t : State) : Prop where
  outside : SameOutside s t
  other : t.seq r.other = s.seq r.other
  otherReq : t.arb.req r.other = s.arb.req r.other
  phase : (s.seq r).phase.Moves (t.seq r).phase

section worksOn
variable {r : Rail} {s t u : State}

theorem State.WorksOn.refl (r : Rail) (s : State) : s.WorksOn r s := ⟨.refl s, rfl, rfl, .refl _⟩

theorem State.WorksOn.trans (h : s.WorksOn r t) (k : t.WorksOn r u) : s.WorksOn r u :=
  ⟨h.outside.trans k.outside, k.other.trans h.other, k.otherReq.trans h.otherReq, h.phase.trans k.phase⟩

theorem State.worksOn_setSeq (s : State) (r : Rail) (x : Sequencer) (h : (s.seq r).phase.Moves x.phase) :
    s.WorksOn r (s.setSeq r x) :=
  ⟨.setSeq s r x, s.seq_setSeq_other r x, by simp, by simpa using h⟩

theorem State.worksOn_withHub (s : State) (r : Rail) (h : Hub) : s.WorksOn r (s.withHub h) :=
  ⟨.withHub s h, s.seq_withHub h _, rfl, .of_eq (by simp)⟩

theorem State.worksOn_setReq (s : State) (r : Rail) (k : Option Nat) :
    s.WorksOn r { s with arb := s.arb.setReq r k } := by
  refine ⟨.setArb s _, ?_, s.arb.req_setReq_other r k, .of_eq ?_⟩ <;> cases r <;> rfl

end worksOn

/-! ## Walks -/

/-- A walk with a current step leaves its rail asking for a group or resting. -/
theorem State.walkOn_cases {s : State} {r : Rail} {st : Step} (hc : (s.seq r).current = some st) :
    (∃ st' w g, s.walkOn r = s.asking r st' w g) ∨ s.walkOn r = s.resting r := by
  by_cases hg : (s.nextGroup st (s.seq r).walk).1 = []
  · rw [State.walkOn_ends hc hg]
    cases hw : (s.seq r).waiting with
    | none => exact .inr (State.chainEnd_rests hw)
    | some next =>
      obtain ⟨asks, rests⟩ := State.chainEnd_next hw
      by_cases hn : (s.nextGroup next (s.bank.head r)).1 = []
      · exact .inr (rests hn)
      · exact .inl ⟨_, _, _, asks hn⟩
  · exact .inl ⟨_, _, _, State.walkOn_asks hc hg⟩

theorem State.walkOn_idle {s : State} {r : Rail} (hc : (s.seq r).current = none) : s.walkOn r = s := by
  unfold State.walkOn
  rw [hc]

theorem State.worksOn_asking (s : State) (r : Rail) (st : Step) (w : Option Step) (g : List BlockIx × Link)
    (on : (s.seq r).phase.settled → (s.seq r).phase.state ≠ .off) : s.WorksOn r (s.asking r st w g) := by
  have seq := s.worksOn_setSeq r
    { s.seq r with state := .requesting, current := some st, waiting := w, group := g.1, walk := g.2 }
    (.on on (RailPhase.settled_of_busy (.inl rfl)) (by simp [Sequencer.phase]))
  unfold State.asking
  rw [← s.arb_setSeq r]
  exact seq.trans (State.worksOn_setReq _ r _)

theorem State.worksOn_resting (s : State) (r : Rail) (on : (s.seq r).phase.settled → (s.seq r).phase.state ≠ .off) :
    s.WorksOn r (s.resting r) :=
  s.worksOn_setSeq r _ (.on on (fun _ => rfl) (by simp [Sequencer.phase]))

theorem State.worksOn_walkOn (s : State) (r : Rail) : s.WorksOn r (s.walkOn r) := by
  cases hc : (s.seq r).current with
  | none => rw [State.walkOn_idle hc]; exact .refl r s
  | some st =>
    have on := RailPhase.on_of_current (x := (s.seq r).phase) hc
    obtain ⟨_, _, _, e⟩ | e := State.walkOn_cases hc
    · rw [e]; exact s.worksOn_asking r _ _ _ on
    · rw [e]; exact s.worksOn_resting r on

/-- A WAITING rail that begins a cycle comes to ask for a group, or rests again (R66). -/
theorem State.worksOn_beginCycle {s : State} {r : Rail} (h : (s.seq r).state = .waiting) (st : Step) :
    s.WorksOn r (s.beginCycle r st) := by
  have on : (s.seq r).phase.settled → (s.seq r).phase.state ≠ .off := fun _ => by simp [Sequencer.phase, h]
  have current : ((s.setSeq r { s.seq r with current := some st, walk := s.bank.head r }).seq r).current = some st := by
    simp
  obtain ⟨st', w, g, e⟩ | e := State.walkOn_cases current
  · rw [State.beginCycle, e, State.asking_setSeq s r (some st) _ (s.seq r).waiting]
    exact s.worksOn_asking r st' w g on
  · rw [State.beginCycle, e, State.resting_setSeq s r (some st) _ (s.seq r).waiting]
    exact s.worksOn_resting r on

/-! ## Omissions and steps arriving -/

theorem State.worksOn_closeSkip (s : State) (r : Rail) : s.WorksOn r (s.closeSkip r) := by
  obtain ⟨-, arb, other⟩ := s.closeSkip_frame r
  exact ⟨sameOutside_closeSkip s r, other, congrArg (fun a => a.req r.other) arb, .of_eq (by rw [State.seq_closeSkip]; rfl)⟩

theorem State.worksOn_omission (s : State) (r : Rail) (k : StepNo) (c : Coverage) : s.WorksOn r (s.omission r k c) := by
  unfold State.omission
  split
  · exact s.worksOn_setSeq r _ (.of_eq rfl)
  · exact (s.worksOn_closeSkip r).trans (State.worksOn_setSeq _ r _ (.of_eq rfl))

theorem State.worksOn_stepArrives (s : State) (r : Rail) (st : Step) : s.WorksOn r (s.stepArrives r st) := by
  have busy : (s.seq r).state = .requesting ∨ (s.seq r).state = .listening → s.WorksOn r (s.stepArrives r st) := by
    intro h
    cases hw : (s.seq r).waiting with
    | none => rw [State.stepArrives_keeps st h hw]; exact s.worksOn_setSeq r _ (.of_eq rfl)
    | some old => rw [State.stepArrives_misses st h hw]; exact s.worksOn_omission r _ _
  cases h : (s.seq r).state with
  | off => simp only [State.stepArrives, h]; exact .refl r s
  | waiting => simp only [State.stepArrives, h]; exact State.worksOn_beginCycle h st
  | requesting => exact busy (.inl h)
  | listening => exact busy (.inr h)

/-! ## Grants -/

theorem State.worksOn_fireShot (s : State) (r : Rail) (st : Step) (j : Bool) (d : ShotPlan) :
    s.WorksOn r (s.fireShot r st j d) :=
  ⟨sameOutside_fireShot s r st j d, by simp [State.fireShot], by simp [State.fireShot],
    .of_eq (by rw [State.seq_fireShot]; rfl)⟩

theorem State.worksOn_fireShots (r : Rail) (st : Step) (j : Bool) (is : List BlockIx) (cs : List Chan) (ns : List Nat)
    (s : State) : s.WorksOn r (State.fireShots s r st j is cs ns) := by
  induction is generalizing s cs ns with
  | nil => exact .refl r s
  | cons i is ih =>
    cases cs with
    | nil => exact .refl r s
    | cons c cs =>
      cases ns with
      | nil => exact .refl r s
      | cons n ns => exact (s.worksOn_fireShot r st j _).trans (ih cs ns _)

theorem State.worksOn_afterShots (s : State) (r : Rail) (st : Step) : s.WorksOn r (s.afterShots r st) :=
  ((s.worksOn_withHub r _).trans (State.worksOn_closeSkip _ r)).trans (State.worksOn_fireShots r st _ _ _ _ _)

/-- A rail in its cycle that is granted its group is LISTENING (R71). -/
theorem State.worksOn_grant {s : State} {r : Rail} {now : Step} (hc : (s.seq r).current = some now) (st : Step) :
    s.WorksOn r (s.grant r st) := by
  have on := RailPhase.on_of_current (x := (s.seq r).phase) hc
  have shots := s.worksOn_afterShots r st
  refine ⟨sameOutside_grant s r st, (s.seq_grant_other r st).trans shots.other, ?_, ?_⟩
  · rw [State.arb_grant, Arbiter.req_setReq_other]
    exact shots.otherReq
  · rw [State.seq_grant]
    exact .on on (RailPhase.settled_of_busy (.inr rfl)) (by simp [Sequencer.phase])

theorem State.worksOn_omitGroup (s : State) (r : Rail) (st : Step) : s.WorksOn r (s.omitGroup r st) := by
  let t := s.omission r st.no (.probeSet (groupProbes s.bank (s.seq r).group))
  let u := t.setSeq r { t.seq r with group := [] }
  have emptied : t.WorksOn r u := t.worksOn_setSeq r _ (.of_eq rfl)
  exact ((s.worksOn_omission r _ _).trans emptied).trans (u.worksOn_setReq r none)

/-! ## Passes -/

/-- A rail without a waiting request is passed over (R93). -/
theorem State.consider_noRequest {s : State} {r : Rail} (h : s.arb.req r = none) : s.consider r = (s, .noRequest) := by
  unfold State.consider
  rw [h]

theorem State.worksOn_consider (s : State) (r : Rail) : s.WorksOn r (s.consider r).1 := by
  unfold State.consider
  split
  · next hc =>
    split
    · split
      · exact State.worksOn_grant hc _
      · exact s.worksOn_omitGroup r _
    · exact .refl r s
  · exact .refl r s

/-- `t` comes from `s` by work on rails that `rails` admits. -/
def State.RailWork (rails : Rail → Prop) : State → State → Prop :=
  Relation.ReflTransGen fun s t => ∃ r, rails r ∧ s.WorksOn r t

theorem State.railWork_of {rails : Rail → Prop} {r : Rail} {s t : State} (h : rails r) (w : s.WorksOn r t) :
    State.RailWork rails s t := .single ⟨r, h, w⟩

theorem State.RailWork.outside {rails : Rail → Prop} {s t : State} (w : State.RailWork rails s t) : SameOutside s t := by
  induction w with
  | refl => exact .refl s
  | tail _ last ih => obtain ⟨_, -, last⟩ := last; exact ih.trans last.outside

theorem State.RailWork.phase {rails : Rail → Prop} {s t : State} (w : State.RailWork rails s t) (q : Rail) :
    (s.seq q).phase.Moves (t.seq q).phase := by
  induction w with
  | refl => exact .refl _
  | tail _ last ih =>
    obtain ⟨r, -, last⟩ := last
    by_cases e : q = r
    · subst e
      exact ih.trans last.phase
    · obtain rfl := Rail.eq_other_of_ne e
      exact ih.trans (.of_eq (congrArg Sequencer.phase last.other))

/-- Work on the other rail alone leaves a rail and its request as they are. -/
theorem State.RailWork.untouched {rails : Rail → Prop} {s t : State} (w : State.RailWork rails s t) {q : Rail}
    (h : ¬ rails q) : t.seq q = s.seq q ∧ t.arb.req q = s.arb.req q := by
  induction w with
  | refl => exact ⟨rfl, rfl⟩
  | tail _ last ih =>
    obtain ⟨r, admitted, last⟩ := last
    have e : q ≠ r := fun e => h (e ▸ admitted)
    obtain rfl := Rail.eq_other_of_ne e
    exact ⟨last.other.trans ih.1, last.otherReq.trans ih.2⟩

theorem State.railWork_consider {rails : Rail → Prop} {s : State} {r : Rail} (h : s.arb.req r ≠ none → rails r) :
    State.RailWork rails s (s.consider r).1 ∧ ((s.consider r).2 = .refused → rails r) := by
  by_cases hr : s.arb.req r = none
  · rw [State.consider_noRequest hr]
    exact ⟨.refl, fun c => by cases c⟩
  · exact ⟨State.railWork_of (h hr) (s.worksOn_consider r), fun _ => h hr⟩

theorem State.railWork_afterRefusals {rails : Rail → Prop} (fuel : Nat) (l : List Rail) (s : State)
    (h : ∀ r ∈ l, rails r) : State.RailWork rails s (State.afterRefusals fuel l s) := by
  induction fuel generalizing l s with
  | zero => unfold State.afterRefusals; exact .refl
  | succ fuel ih =>
    cases l with
    | nil => unfold State.afterRefusals; exact .refl
    | cons r rest =>
      obtain ⟨first, later⟩ := List.forall_mem_cons.1 h
      unfold State.afterRefusals
      refine ((State.railWork_of first (s.worksOn_walkOn r)).trans
        (State.railWork_of first (State.worksOn_consider _ r))).trans (ih _ _ ?_)
      split
      · exact fun q hq => (List.mem_append.1 hq).elim (later q) fun c => List.mem_singleton.1 c ▸ first
      · exact later

/-- A pass works on the rails whose requests wait when it begins (R92 to R95). -/
theorem State.railWork_pass (s : State) : State.RailWork (fun r => s.arb.req r ≠ none) s s.pass := by
  let rails : Rail → Prop := fun r => s.arb.req r ≠ none
  obtain ⟨first, refusedHi⟩ := State.railWork_consider (rails := rails) (s := s) (r := s.higherRail) id
  obtain ⟨second, refusedLo⟩ := State.railWork_consider (rails := rails) (s := (s.consider s.higherRail).1)
    (r := s.higherRail.other) (by rw [(s.worksOn_consider s.higherRail).otherReq]; exact id)
  have both := first.trans second
  have low : ∀ {t : State}, ((s.consider s.higherRail).1.consider s.higherRail.other).2 = .refused →
      State.RailWork rails s t → State.RailWork rails s (State.afterRefusals 512 [s.higherRail.other] t) :=
    fun refused w => w.trans (State.railWork_afterRefusals _ _ _ (by simpa using refusedLo refused))
  unfold State.pass
  dsimp only
  split
  · exact first
  · split
    · next refused => exact low refused both
    · exact both
  · split
    · next refused => exact low refused both
    · exact both
  · next hi =>
    refine both.trans (State.railWork_afterRefusals _ _ _ ?_)
    split
    · next refused => simpa using ⟨refusedHi hi, refusedLo refused⟩
    · simpa using refusedHi hi

end Sys2Proof.Machine
end

section
/-! SUPPORT. The track of the part: odometer, Step Generator, run state and the phases of the rails; the moves that one
operation can make on it, and that every step is made of them. Settled here: O55, O56. -/

namespace Sys2Proof.Machine

/-! ## The track and its moves -/

/-- The scaler and its remainder, and the markers, lie within their ranges (R43). -/
def Odometer.ranged (o : Odometer) : Prop :=
  (1 ≤ o.num ∧ o.num ≤ 4096) ∧ (1 ≤ o.den ∧ o.den ≤ 4096) ∧ o.num ≤ 8 * o.den ∧ o.rem < o.den ∧ o.m0.ranged ∧ o.m1.ranged

theorem State.odoRanged_iff (s : State) : s.odoRanged ↔ s.odo.ranged := Iff.rfl

/-- The frontier is at least 0 and at least the displacement (R55, R57). -/
def StepGen.leads (g : StepGen) : Prop := 0 ≤ g.frontier.toInt ∧ g.disp.toInt ≤ g.frontier.toInt

theorem State.frontierLeads_iff (s : State) : s.frontierLeads ↔ s.gen.leads := Iff.rfl

/-- What the invariants of the track and the run look at. -/
structure Track where
  odo : Odometer
  gen : StepGen
  run : RunState
  rails : Rail → RailPhase

def State.track (s : State) : Track :=
  { odo := s.odo, gen := s.gen, run := s.run.state, rails := fun r => (s.seq r).phase }

/-- A Step Generator that has entered a state and stopped its timer (R56, R62). -/
def StepGen.entered (g : StepGen) (x : GenState) : StepGen := { g with state := x, timer := none }

/-- What an operation can do to the track in one move: the odometer changes within its ranges (R46, R49 to R53); the
generator changes within its state, the frontier leading (R57, R58, R60, R61); rails move (R65 to R75); the generator
halts at the limit (R62); a run ends by completion or by a stop (R156, R157), or begins (R153); hardware reset. -/
inductive Track.Move : Track → Track → Prop
  | odometer (x : Track) (o : Odometer) (kept : x.odo.ranged → o.ranged) : Move x { x with odo := o }
  | generator (x : Track) (g : StepGen) (same : g.state = x.gen.state) (kept : x.gen.leads → g.leads) :
    Move x { x with gen := g }
  | rails (x : Track) (f : Rail → RailPhase) (moves : ∀ r, (x.rails r).Moves (f r)) : Move x { x with rails := f }
  | halt (x : Track) (issuing : x.gen.state = .issuing) :
    Move x { x with gen := x.gen.entered .halted, run := .finishing }
  | complete (x : Track) (rest : ∀ r, (x.rails r).state = .waiting) :
    Move x { x with gen := x.gen.entered .off, run := .idle, rails := fun r => { x.rails r with state := .off } }
  | stop (x : Track) :
    Move x { x with gen := x.gen.entered .off, run := .idle, rails := fun _ => { state := .off, current := none } }
  | start (x : Track) (b : StepSettings) :
    Move x { x with gen := StepGen.started b, run := .running,
                    rails := fun _ => { state := .waiting, current := none } }
  | reset (x : Track) : Move x State.reset.track

/-- The track of `t` comes from that of `s` by moves. -/
def State.TrackMoves (s t : State) : Prop := Relation.ReflTransGen Track.Move s.track t.track

section trackMoves
variable {s t u : State}

theorem State.TrackMoves.same (h : t.track = s.track) : s.TrackMoves t := by
  unfold State.TrackMoves
  rw [h]

theorem State.TrackMoves.refl (s : State) : s.TrackMoves s := .same rfl

theorem State.TrackMoves.one (h : Track.Move s.track t.track) : s.TrackMoves t := .single h

theorem State.TrackMoves.trans (h : s.TrackMoves t) (k : t.TrackMoves u) : s.TrackMoves u :=
  Relation.ReflTransGen.trans h k

theorem State.TrackMoves.thenSame (h : s.TrackMoves t) (k : u.track = t.track) : s.TrackMoves u := h.trans (.same k)

theorem State.trackMoves_odo (s : State) (o : Odometer) (kept : s.odo.ranged → o.ranged) :
    s.TrackMoves { s with odo := o } := .one (.odometer s.track o kept)

theorem State.trackMoves_gen (s : State) (g : StepGen) (same : g.state = s.gen.state)
    (kept : s.gen.leads → g.leads) : s.TrackMoves { s with gen := g } := .one (.generator s.track g same kept)

/-- Work on the rails moves their phases alone. -/
theorem State.RailWork.trackMoves {rails : Rail → Prop} (w : State.RailWork rails s t) : s.TrackMoves t := by
  have moved := Track.Move.rails s.track (fun r => (t.seq r).phase) w.phase
  refine .one ?_
  unfold State.track at moved ⊢
  rw [w.outside.odo, w.outside.gen, w.outside.run]
  exact moved

theorem State.WorksOn.trackMoves {r : Rail} (w : s.WorksOn r t) : s.TrackMoves t :=
  (State.railWork_of (rails := fun _ => True) trivial w).trackMoves

/-- A sequencer replaced by one of the same phase leaves the track as it is. -/
theorem State.track_setSeq (s : State) (r : Rail) (x : Sequencer) (h : x.phase = (s.seq r).phase) :
    (s.setSeq r x).track = s.track := by
  have rails : (fun q => ((s.setSeq r x).seq q).phase) = fun q => (s.seq q).phase := by
    funext q
    rw [State.seq_setSeq_of]
    split
    · next e => rw [h, e]
    · rfl
  unfold State.track
  rw [rails, State.odo_setSeq, State.gen_setSeq, State.run_setSeq]

@[simp] theorem State.track_withHub (s : State) (h : Hub) : (s.withHub h).track = s.track := rfl

@[simp] theorem State.track_endPool (s : State) : s.endPool.track = s.track := by
  rw [s.endPool_eq]
  rfl

end trackMoves

/-! ## Steps, swaps and the end of a run -/

theorem State.trackMoves_haltAtLimit {s : State} (h : s.gen.state = .issuing) : s.TrackMoves s.haltAtLimit := by
  unfold State.haltAtLimit
  split
  · exact .one (.halt s.track h)
  · exact .refl s

/-- A step is issued in ISSUING only: the rails take it, and the generator may halt (R58, R61, R62). -/
theorem State.trackMoves_issue {s : State} (h : s.gen.state = .issuing) : s.TrackMoves s.issue := by
  let st : Step := { no := s.gen.stepNo + 1, pos := s.odo.position }
  let t : State := { s with gen := { s.gen with stepNo := st.no } }
  have numbered : s.TrackMoves t := s.trackMoves_gen _ rfl id
  have arrivedA := t.worksOn_stepArrives .a st
  have arrivedB := State.worksOn_stepArrives (t.stepArrives .a st) .b st
  have issuing : ((t.stepArrives .a st).stepArrives .b st).gen.state = .issuing := by
    rw [arrivedB.outside.gen, arrivedA.outside.gen]
    exact h
  have halted := ((numbered.trans arrivedA.trackMoves).trans arrivedB.trackMoves).trans
    (State.trackMoves_haltAtLimit issuing)
  rw [State.issue_eq]
  dsimp only
  split
  · exact halted.trans (State.railWork_pass _).trackMoves
  · exact halted

theorem State.trackMoves_complete {s : State} (h : s.completionDue = true) : s.TrackMoves s.complete := by
  obtain ⟨-, rest⟩ := s.completionDue_iff.1 h
  have e : s.complete.track =
      { s.track with
        gen := s.gen.entered .off
        run := .idle
        rails := fun r => { (s.seq r).phase with state := .off } } := by
    rw [State.complete_eq]
    unfold State.track
    congr 1
    funext r
    cases r <;> rfl
  refine .one ?_
  rw [e]
  exact .complete s.track fun r => (rest r).1

theorem State.trackMoves_completeIfDue (s : State) : s.TrackMoves s.completeIfDue := by
  unfold State.completeIfDue
  split
  · next h => exact State.trackMoves_complete h
  · exact .refl s

theorem State.trackMoves_issueReached (n : Nat) (s : State) : s.TrackMoves (State.issueReached n s) := by
  induction n generalizing s with
  | zero => exact .refl s
  | succ n ih =>
    unfold State.issueReached
    split
    · next h =>
      have advanced : s.TrackMoves s.advanceBoundary := s.trackMoves_gen _ rfl id
      exact ((advanced.trans (State.trackMoves_issue (s := s.advanceBoundary) h.1)).trans
        (State.trackMoves_completeIfDue _)).trans (ih _)
    · exact .refl s

theorem State.trackMoves_newPitch (s : State) : s.TrackMoves s.newPitch := by
  unfold State.newPitch
  split
  · exact .refl s
  · exact s.trackMoves_gen _ rfl id

theorem State.track_clearFired (s : State) : s.clearFired.track = s.track := by
  unfold State.track
  congr 1
  funext r
  cases r <;> rfl

theorem State.trackMoves_swapBanks (s : State) (sig : BitVec 32) (p : Port) : s.TrackMoves (s.swapBanks sig p) := by
  let t := State.clearFired { s with plan := s.plan.swapped sig }
  have cleared : s.TrackMoves t := .same (State.track_clearFired { s with plan := s.plan.swapped sig })
  exact cleared.trans (State.trackMoves_newPitch (t.handRecord (.plan t.plan.epoch sig t.plan.activeIx p)))

theorem State.trackMoves_swap (s : State) : s.TrackMoves s.swap := by
  unfold State.swap
  split
  · exact (s.trackMoves_swapBanks _ _).trans (State.trackMoves_issueReached _ _)
  · exact .refl s

theorem State.trackMoves_swapIfDue (s : State) : s.TrackMoves s.swapIfDue := by
  unfold State.swapIfDue
  split
  · exact s.trackMoves_swap
  · exact .refl s

theorem State.trackMoves_afterCycles (s : State) : s.TrackMoves s.afterCycles := by
  unfold State.afterCycles
  split
  · next h =>
    let t := { s with freeCount := s.freeCount + 1 }
    have counted : s.TrackMoves t := .same rfl
    have due : t.completionDue = true := (Bool.and_eq_true_iff.1 h).1
    dsimp only
    split
    · exact (counted.trans t.trackMoves_swap).trans (State.trackMoves_completeIfDue _)
    · exact (counted.trans (State.trackMoves_complete due)).trans (State.trackMoves_swapIfDue _)
  · exact s.trackMoves_completeIfDue.trans (State.trackMoves_swapIfDue _)

/-! ## Ticks and counts -/

/-- The Step Generator with a displacement that the frontier follows when it rises (R57). -/
def StepGen.follow (g : StepGen) (d : BitVec 48) : StepGen :=
  { g with disp := d, frontier := if g.frontier.toInt < d.toInt then d else g.frontier }

theorem StepGen.leads_follow {g : StepGen} (h : g.leads) (d : BitVec 48) : (g.follow d).leads := by
  obtain ⟨nonneg, behind⟩ := h
  unfold StepGen.leads StepGen.follow
  dsimp only
  split
  · next rises => exact ⟨by omega, le_refl _⟩
  · next stays => exact ⟨nonneg, by omega⟩

/-- The displacement of the generator set, and the frontier following it. -/
def State.follow (s : State) (d : BitVec 48) (n : Nat) : State := { s with gen := s.gen.follow d, freeCount := n }

/-- The displacement that a tick in its range gives (R57). -/
def StepGen.ticked (g : StepGen) (plus : Bool) : Int := g.disp.toInt + if g.source.increases plus then 1 else -1

theorem State.moveDisp_eq (s : State) (plus : Bool) :
    ∃ d n, s.moveDisp (s.gen.source.increases plus) = { s with gen := { s.gen with disp := d }, freeCount := n } ∧
      (-(2 ^ 47) ≤ s.gen.ticked plus → s.gen.ticked plus < 2 ^ 47 →
        d = BitVec.ofInt 48 (s.gen.ticked plus) ∧ n = s.freeCount) := by
  by_cases inside : -(2 ^ 47) ≤ s.gen.ticked plus ∧ s.gen.ticked plus < 2 ^ 47
  · exact ⟨_, _, if_pos inside, fun _ _ => ⟨rfl, rfl⟩⟩
  · exact ⟨_, _, if_neg inside, fun low high => absurd ⟨low, high⟩ inside⟩

/-- A tick outside OFF: d takes its new value, which is a free one beyond the range of 48 bits, the frontier follows it,
and a frontier that rises to the next boundary issues a step (R57 to R59; log 3). -/
theorem State.genTick_on {s : State} (on : s.gen.state ≠ .off) (plus : Bool) :
    ∃ d n, (-(2 ^ 47) ≤ s.gen.ticked plus → s.gen.ticked plus < 2 ^ 47 →
        d = BitVec.ofInt 48 (s.gen.ticked plus) ∧ n = s.freeCount) ∧
      s.genTick plus =
        if s.gen.frontier.toInt < d.toInt ∧ s.gen.state = .issuing ∧ s.gen.source ≠ .timed ∧
            d.toInt = (s.gen.nextBoundary : Int) then
          (s.follow d n).advanceBoundary.issue.afterCycles
        else s.follow d n := by
  obtain ⟨d, n, e, ranged⟩ := s.moveDisp_eq plus
  refine ⟨d, n, ranged, ?_⟩
  unfold State.genTick
  rw [if_neg on, e]
  by_cases rises : s.gen.frontier.toInt < d.toInt
  · have followed : s.follow d n = { s with gen := { s.gen with disp := d, frontier := d }, freeCount := n } := by
      simp [State.follow, StepGen.follow, rises]
    rw [followed]
    simp only [rises, if_true, true_and]
  · have followed : s.follow d n = { s with gen := { s.gen with disp := d }, freeCount := n } := by
      simp [State.follow, StepGen.follow, rises]
    rw [followed]
    simp only [rises, if_false, false_and]

theorem State.genTick_off {s : State} (off : s.gen.state = .off) (plus : Bool) : s.genTick plus = s := if_pos off

theorem State.trackMoves_genTick (s : State) (plus : Bool) : s.TrackMoves (s.genTick plus) := by
  by_cases off : s.gen.state = .off
  · rw [State.genTick_off off]
    exact .refl s
  · obtain ⟨d, n, -, e⟩ := State.genTick_on off plus
    have followed : s.TrackMoves (s.follow d n) :=
      (s.trackMoves_gen (s.gen.follow d) rfl fun h => StepGen.leads_follow h d).thenSame rfl
    rw [e]
    split
    · next h =>
      have advanced : (s.follow d n).TrackMoves (s.follow d n).advanceBoundary := State.trackMoves_gen _ _ rfl id
      exact ((followed.trans advanced).trans (State.trackMoves_issue (s := (s.follow d n).advanceBoundary) h.2.1)).trans
        (State.trackMoves_afterCycles _)
    · exact followed

theorem State.trackMoves_ticks (plus : Bool) (n : Nat) (s : State) : s.TrackMoves (State.ticks plus n s) := by
  induction n generalizing s with
  | zero => exact .refl s
  | succ n ih =>
    have moved := s.trackMoves_odo
      { s.odo with
        position := if plus then s.odo.position + 1 else s.odo.position - 1
        tally := if plus then s.odo.tally + 1 else s.odo.tally - 1 } id
    exact (moved.trans (State.trackMoves_genTick _ plus)).trans (ih _)

/-- The ticks of a count: they use up N and the remainder, which stays below D, and are at most 8 while N is at most
8·D (R46). -/
theorem Odometer.scale_spec {o : Odometer} (h : o.rem < o.den) (plus : Bool) :
    (o.scale plus).2 < o.den ∧
      (if plus then (o.scale plus).2 + (o.scale plus).1 * o.den = o.rem + o.num
        else (o.scale plus).2 + o.num = o.rem + (o.scale plus).1 * o.den) ∧
      (o.num ≤ 8 * o.den → (o.scale plus).1 ≤ 8) := by
  have positive : 0 < o.den := by omega
  cases plus with
  | true =>
    refine ⟨Nat.mod_lt _ positive, ?_, fun small => ?_⟩
    · exact (Nat.add_comm _ _).trans (Nat.div_add_mod' _ _)
    · exact Nat.lt_succ_iff.1 ((Nat.div_lt_iff_lt_mul positive).2 (by omega))
  | false =>
    obtain ⟨x, hx⟩ : ∃ x, x = o.num - o.rem + o.den - 1 := ⟨_, rfl⟩
    have whole : x / o.den * o.den + x % o.den = x := Nat.div_add_mod' _ _
    have part : x % o.den < o.den := Nat.mod_lt _ positive
    have few : o.num ≤ 8 * o.den → x / o.den ≤ 8 := fun small =>
      Nat.lt_succ_iff.1 ((Nat.div_lt_iff_lt_mul positive).2 (by omega))
    have scaled : o.scale false = (x / o.den, o.rem + x / o.den * o.den - o.num) := by rw [hx]; rfl
    rw [scaled]
    have least : o.num ≤ o.rem → x / o.den = 0 := fun h => Nat.div_eq_of_lt (by omega)
    have enough : o.num ≤ o.rem + x / o.den * o.den := by omega
    have below : o.rem + x / o.den * o.den - o.num < o.den := by
      by_cases h : o.num ≤ o.rem
      · rw [least h]
        omega
      · omega
    exact ⟨below, Nat.sub_add_cancel enough, few⟩

theorem MarkerUnit.ranged_count {m : MarkerUnit} (h : m.ranged) : m.count.ranged := by
  obtain ⟨lockout, counter⟩ := h
  unfold MarkerUnit.count
  refine ⟨lockout, ?_⟩
  dsimp only
  split <;> omega

theorem State.trackMoves_count (s : State) (plus : Bool) : s.TrackMoves (s.count plus) := by
  let u : State := { s with odo := { s.odo with rem := (s.odo.scale plus).2 } }
  let v := State.ticks plus (s.odo.scale plus).1 u
  have scaled : s.TrackMoves u := s.trackMoves_odo _ fun ⟨num, den, ratio, rem, m0, m1⟩ =>
    ⟨num, den, ratio, (Odometer.scale_spec rem plus).1, m0, m1⟩
  have counted : v.TrackMoves (s.count plus) := v.trackMoves_odo _ fun ⟨num, den, ratio, rem, m0, m1⟩ =>
    ⟨num, den, ratio, rem, MarkerUnit.ranged_count m0, MarkerUnit.ranged_count m1⟩
  exact (scaled.trans (State.trackMoves_ticks plus _ u)).trans counted

theorem State.trackMoves_transition (s : State) (a b : Bool) : s.TrackMoves (s.transition a b) := by
  let t : State := { s with odo := { s.odo with lineA := a, lineB := b } }
  have sampled : s.TrackMoves t := s.trackMoves_odo _ id
  unfold State.transition
  dsimp only
  split
  · exact sampled
  · exact (sampled.trans (t.trackMoves_count true)).thenSame (State.track_endPool _)
  · exact (sampled.trans (t.trackMoves_count false)).thenSame (State.track_endPool _)
  · have doubtful := t.trackMoves_odo { t.odo with doubtful := true } id
    exact (sampled.trans doubtful).thenSame (State.track_endPool _)

/-! ## Markers, the step timer and the channels -/

/-- An odometer with a marker in range put in is in range. -/
theorem Odometer.ranged_setMarker {o : Odometer} (h : o.ranged) (m : Marker) {x : MarkerUnit} (hx : x.ranged) :
    (o.setMarker m x).ranged := by
  obtain ⟨num, den, ratio, rem, m0, m1⟩ := h
  cases m with
  | m0 => exact ⟨num, den, ratio, rem, hx, m1⟩
  | m1 => exact ⟨num, den, ratio, rem, m0, hx⟩

theorem Odometer.ranged_marker {o : Odometer} (h : o.ranged) (m : Marker) : (o.marker m).ranged := by
  obtain ⟨-, -, -, -, m0, m1⟩ := h
  cases m with
  | m0 => exact m0
  | m1 => exact m1

theorem State.trackMoves_acceptMarker (s : State) (m : Marker) : s.TrackMoves (s.acceptMarker m) := by
  have returned : s.odo.ranged → (s.odo.setMarker m { s.odo.marker m with counter := 0 }).ranged := fun h =>
    Odometer.ranged_setMarker h m ⟨(Odometer.ranged_marker h m).1, Nat.zero_le _⟩
  unfold State.acceptMarker
  dsimp only
  refine State.TrackMoves.trans (s.trackMoves_odo _ ?_) (.same rfl)
  intro h
  split
  · exact returned h
  · exact returned h

theorem State.trackMoves_markerChange (s : State) (m : Marker) (level : Bool) :
    s.TrackMoves (s.markerChange m level) := by
  have sampled := s.trackMoves_odo (s.odo.setMarker m { s.odo.marker m with level := level }) fun h =>
    Odometer.ranged_setMarker h m (Odometer.ranged_marker h m)
  unfold State.markerChange
  dsimp only
  split
  · exact (sampled.trans (State.trackMoves_acceptMarker _ m)).thenSame (State.track_endPool _)
  · exact sampled

theorem State.trackMoves_restartStepTimer (s : State) : s.TrackMoves s.restartStepTimer := by
  unfold State.restartStepTimer
  split
  · exact s.trackMoves_gen _ rfl id
  · exact .refl s

theorem State.trackMoves_timerExpiry (s : State) : s.TrackMoves s.timerExpiry := by
  unfold State.timerExpiry
  split
  · next h =>
    exact (((State.trackMoves_issue h.1).trans (State.trackMoves_afterCycles _)).trans
      (State.trackMoves_restartStepTimer _)).thenSame (State.track_endPool _)
  · exact .refl s

theorem State.track_couple (s : State) (p : ProbeNo) (hit : Option Bool) (n : StepNo) :
    (s.couple p hit n).track = s.track := by
  obtain ⟨coup, hub, e⟩ := s.couple_eq p hit n
  rw [e]
  rfl

theorem State.track_completeShot (s : State) (b : Binding) (e : Evaluator) : (s.completeShot b e).track = s.track := by
  unfold State.completeShot
  split
  · rfl
  · split
    · rfl
    · rfl
    · rfl
    · dsimp only
      split
      · rw [State.track_withHub, State.track_couple]
      · rw [State.track_withHub, State.track_couple]

theorem State.track_movePointer (s : State) (r : Rail) : (s.movePointer r).track = s.track := by
  unfold State.movePointer
  split <;> rfl

theorem State.trackMoves_settleEnd (s : State) (c : Chan) : s.TrackMoves (s.settleEnd c) := by
  unfold State.settleEnd
  split
  · next b _ _ =>
    split
    · exact .same rfl
    · let t := (s.releaseRail b.rail).movePointer b.rail
      have released : s.TrackMoves t := .same (State.track_movePointer (s.releaseRail b.rail) b.rail)
      have cleared : t.TrackMoves (t.clearGroup b.rail) := .same (t.track_setSeq b.rail _ rfl)
      exact (((released.trans cleared).trans (State.worksOn_walkOn _ b.rail).trackMoves).trans
        (State.railWork_pass _).trackMoves).trans (State.trackMoves_afterCycles _)
  · exact .refl s

/-- A window's end up to its settle end: the shot is completed and the rail has one window less to wait for. -/
theorem State.track_windowClosed (s : State) (c : Chan) (x : Channel) (b : Binding) (e : Evaluator) :
    let t := (s.setChan c x).completeShot b e
    (t.setSeq b.rail { t.seq b.rail with windows := (t.seq b.rail).windows - 1 }).track = s.track := by
  intro t
  rw [State.track_setSeq]
  · exact (s.setChan c x).track_completeShot b e
  · rfl

theorem State.trackMoves_windowEnd (s : State) (c : Chan) (first : Sample) (rest : List Sample) :
    s.TrackMoves (s.windowEnd c first rest) := by
  unfold State.windowEnd
  split
  · dsimp only
    split
    · exact .trans (.same (s.track_windowClosed c _ _ _)) (State.trackMoves_settleEnd _ c)
    · exact .same (s.track_windowClosed c _ _ _)
  · exact .refl s

/-! ## Requests -/

theorem State.trackMoves_reform (s : State) (i : ProbeNo) : s.TrackMoves (s.reform i) := by
  unfold State.reform
  dsimp only
  split
  · generalize (s.seq (railOf i)).group.filter (fun b => decide ((s.bank.block b).probe ≠ i)) = g
    let t := s.setSeq (railOf i) { s.seq (railOf i) with group := g }
    have reformed : s.TrackMoves t := .same (s.track_setSeq _ _ rfl)
    have requested : ∀ k, s.TrackMoves { t with arb := t.arb.setReq (railOf i) k } := fun k =>
      reformed.trans (t.worksOn_setReq (railOf i) k).trackMoves
    split
    · exact (((requested none).trans (State.worksOn_walkOn _ _).trackMoves).trans
        (State.railWork_pass _).trackMoves).trans (State.trackMoves_afterCycles _)
    · exact ((requested _).trans (State.railWork_pass _).trackMoves).trans (State.trackMoves_afterCycles _)
  · exact .refl s

/-- SET SCALER's range test passes for N and D in range with N at most 8·D (R49). -/
theorem scalerBad_eq_none_iff (num den : BitVec 16) : scalerBad num den = none ↔
    (1 ≤ den.toNat ∧ den.toNat ≤ 4096) ∧ (1 ≤ num.toNat ∧ num.toNat ≤ 4096) ∧ num.toNat ≤ 8 * den.toNat := by
  unfold scalerBad
  simp only [inRange_eq_true]
  split
  · split
    · split <;> simp_all
    · simp_all
  · simp_all

theorem State.trackMoves_setScalerBy (s : State) (num den : BitVec 16) : s.TrackMoves (s.setScalerBy num den).1 := by
  unfold State.setScalerBy
  split
  · split
    · exact .refl s
    · next ok =>
      obtain ⟨dens, nums, ratio⟩ := (scalerBad_eq_none_iff num den).1 ok
      exact s.trackMoves_odo _ fun ⟨_, _, _, _, m0, m1⟩ => ⟨nums, dens, ratio, dens.1, m0, m1⟩
  · exact .refl s

theorem State.trackMoves_setMarkerBy (s : State) (marker enabled edge : Byte) (lockout : BitVec 16) (action : Byte)
    (load : Pos) : s.TrackMoves (s.setMarkerBy marker enabled edge lockout action load).1 := by
  unfold State.setMarkerBy
  split
  · exact .refl s
  · exact s.trackMoves_odo _ fun h =>
      Odometer.ranged_setMarker h _ ⟨Nat.le_of_lt_succ lockout.isLt, Nat.le_refl _⟩

theorem State.trackMoves_startBy (s : State) (limit : BitVec 24) (label : BitVec 16) :
    s.TrackMoves (s.startBy limit label).1 := by
  unfold State.startBy
  split
  · have e : (s.beginRun limit label).track =
        { s.track with
          gen := StepGen.started s.bank.settings
          run := .running
          rails := fun _ => { state := .waiting, current := none } } := by
      unfold State.track
      congr 1
      funext r
      cases r <;> rfl
    have begun : s.TrackMoves (s.beginRun limit label) := .one (by rw [e]; exact .start s.track s.bank.settings)
    exact begun.thenSame (State.track_endPool _)
  · exact .refl s

theorem State.trackMoves_stopBy (s : State) : s.TrackMoves s.stopBy.1 := by
  unfold State.stopBy
  split
  · exact .refl s
  · have e : s.stop.track =
        { s.track with
          gen := s.gen.entered .off
          run := .idle
          rails := fun _ => { state := .off, current := none } } := by
      rw [State.stop_eq]
      unfold State.track
      congr 1
      funext r
      cases r <;> rfl
    have stopped : s.TrackMoves s.stop := .one (by rw [e]; exact .stop s.track)
    exact (stopped.trans (State.trackMoves_swapIfDue _)).thenSame (State.track_endPool _)

theorem State.trackMoves_resetRelease {s t : State} {encA encB m0 m1 : Bool} {present : PortSet}
    (e : execResetRelease encA encB m0 m1 present s = .next t) : s.TrackMoves t := by
  cases e
  split
  · exact (s.trackMoves_odo
      { s.odo with
        lineA := encA
        lineB := encB
        m0 := { s.odo.m0 with level := m0 }
        m1 := { s.odo.m1 with level := m1 } } id).thenSame rfl
  · exact .refl s

/-! ## Every step -/

/-- Every operation of the model is made of moves of the track. -/
theorem operationsKeep_trackMoves : OperationsKeep State.TrackMoves where
  refl := .refl
  trans := .trans
  hub _ _ := .same rfl
  plan _ _ := .same rfl
  holdSet _ _ _ := .same rfl
  hardwareReset s := .one (.reset s.track)
  resetRelease _ _ _ _ _ _ _ := State.trackMoves_resetRelease
  transition := State.trackMoves_transition
  speedWindow s := s.trackMoves_odo _ id
  markerChange := State.trackMoves_markerChange
  timerExpiry := State.trackMoves_timerExpiry
  windowEnd := State.trackMoves_windowEnd
  settleEnd := State.trackMoves_settleEnd
  afterCycles := State.trackMoves_afterCycles
  reform := State.trackMoves_reform
  setScaler := State.trackMoves_setScalerBy
  setPosition s _ := s.trackMoves_odo _ id
  setMarker := State.trackMoves_setMarkerBy
  start := State.trackMoves_startBy
  stop := State.trackMoves_stopBy

/-- A property of the track that every move keeps is kept by every step. -/
theorem step_keeps_of_trackMoves {P : Track → Prop} (keeps : ∀ x y, Track.Move x y → P x → P y) {s t : State}
    (e : step s = .next t) (h : P s.track) : P t.track := by
  have moves : Relation.ReflTransGen Track.Move s.track t.track :=
    operationsKeep_trackMoves.step (fun _ _ => .same rfl) e
  generalize t.track = y at moves ⊢
  induction moves with
  | refl => exact h
  | tail _ m ih => exact keeps _ _ m ih

/-! ## The invariants that every move keeps -/

theorem Track.Move.keeps_odoRanged {x y : Track} (m : Track.Move x y) (h : x.odo.ranged) : y.odo.ranged := by
  cases m with
  | odometer o kept => exact kept h
  | reset => exact State.odoRanged_reset
  | generator | rails | halt | complete | stop | start => exact h

theorem Track.Move.keeps_leads {x y : Track} (m : Track.Move x y) (h : x.gen.leads) : y.gen.leads := by
  cases m with
  | generator g same kept => exact kept h
  | start b => exact ⟨Int.le_refl 0, Int.le_refl 0⟩
  | reset => exact ⟨Int.le_refl 0, Int.le_refl 0⟩
  | odometer | rails | halt | complete | stop => exact h

/-- Run state, generator state and rails agree, and every rail is settled (R64, R152). -/
def Track.agrees (x : Track) : Prop :=
  (x.run = .idle ↔ x.gen.state = .off) ∧ (x.run = .running ↔ x.gen.state = .issuing) ∧
    (x.run = .finishing ↔ x.gen.state = .halted) ∧ (∀ r, (x.rails r).state = .off ↔ x.run = .idle) ∧
    ∀ r, (x.rails r).settled

theorem State.runAgrees_iff (s : State) : s.runAgrees ↔ s.track.agrees := Iff.rfl

theorem Track.Move.keeps_agrees {x y : Track} (m : Track.Move x y) (h : x.agrees) : y.agrees := by
  obtain ⟨idle, running, finishing, off, settled⟩ := h
  cases m with
  | odometer o kept => exact ⟨idle, running, finishing, off, settled⟩
  | generator g same kept =>
    rw [← same] at idle running finishing
    exact ⟨idle, running, finishing, off, settled⟩
  | rails f moves =>
    exact ⟨idle, running, finishing, fun r => ((moves r (settled r)).2).trans (off r), fun r => (moves r (settled r)).1⟩
  | halt issuing =>
    have active : x.run ≠ .idle := fun c => by simp [idle.1 c] at issuing
    have on : ∀ r, (x.rails r).state ≠ .off := fun r c => active ((off r).1 c)
    exact ⟨by simp [StepGen.entered], by simp [StepGen.entered], by simp [StepGen.entered], by simpa using on, settled⟩
  | complete rest =>
    exact ⟨by simp [StepGen.entered], by simp [StepGen.entered], by simp [StepGen.entered], by simp,
      fun r _ => settled r (.inr (rest r))⟩
  | stop =>
    exact ⟨by simp [StepGen.entered], by simp [StepGen.entered], by simp [StepGen.entered], by simp, fun _ _ => rfl⟩
  | start b =>
    exact ⟨by simp [StepGen.started], by simp [StepGen.started], by simp [StepGen.started], by simp, fun _ _ => rfl⟩
  | reset => exact State.runAgrees_reset

end Sys2Proof.Machine

namespace Sys2Proof.Proofs
open Sys2Proof.Machine

/-- Settles O55: every step moves the track, and every move keeps the odometer in its ranges and the frontier ahead. -/
theorem stepsKeepTheTrackInRange : Obligations.StepsKeepTheTrackInRange := by
  refine ⟨fun s t h e => ?_, fun s t h e => ?_⟩
  · rw [State.odoRanged_iff] at h ⊢
    exact step_keeps_of_trackMoves (P := fun x => x.odo.ranged) (fun _ _ m => m.keeps_odoRanged) e h
  · rw [State.frontierLeads_iff] at h ⊢
    exact step_keeps_of_trackMoves (P := fun x => x.gen.leads) (fun _ _ m => m.keeps_leads) e h

/-- Settles O56: every step moves the track, and every move keeps run, generator and rails in agreement. -/
theorem stepsKeepTheRunInAgreement : Obligations.StepsKeepTheRunInAgreement := by
  intro s t h e
  rw [State.runAgrees_iff] at h ⊢
  exact step_keeps_of_trackMoves (fun _ _ m => m.keeps_agrees) e h

end Sys2Proof.Proofs
end

section
/-! SUPPORT. The odometer: the judgement of a line pair, ticks outside a run and the lockout counters, marker edges, the
requests that set the odometer, and the release of RESET. Settled here: O4, O5, O6, O9, O10, O46. -/

namespace Sys2Proof.Machine

/-! ## Line pairs and counts (R44 to R48, R52) -/

/-- The pair after (A, B) is (not B, A) in the +1 direction and (B, not A) in the other. -/
theorem judge_valid (a b plus : Bool) :
    judge a b (if plus then !b else b) (if plus then a else !a) = if plus then .plus else .minus := by
  revert a b plus
  decide

theorem judge_fault (a b : Bool) : judge a b (!a) (!b) = .fault := by
  revert a b
  decide

/-- An encoder transition to the pair of a valid count (R44). -/
theorem State.transition_count (s : State) (plus : Bool) :
    let a := if plus then !s.odo.lineB else s.odo.lineB
    let b := if plus then s.odo.lineA else !s.odo.lineA
    s.transition a b =
      (State.count { s with odo := { s.odo with lineA := a, lineB := b } } plus).endPool := by
  intro a b
  have judged : judge s.odo.lineA s.odo.lineB a b = if plus then .plus else .minus := judge_valid _ _ plus
  unfold State.transition
  rw [judged]
  cases plus <;> rfl

/-- Outside a run the ticks of a count move the position and the tally, and nothing else (R47, R48). -/
theorem State.ticks_off {s : State} (off : s.gen.state = .off) (plus : Bool) (k : Nat) :
    State.ticks plus k s =
      { s with
        odo :=
          { s.odo with
            position := if plus then s.odo.position + BitVec.ofNat 32 k else s.odo.position - BitVec.ofNat 32 k
            tally := if plus then s.odo.tally + k else s.odo.tally - k } } := by
  induction k generalizing s with
  | zero => cases plus <;> simp [State.ticks]
  | succ k ih =>
    let t : State :=
      { s with
        odo :=
          { s.odo with
            position := if plus then s.odo.position + 1 else s.odo.position - 1
            tally := if plus then s.odo.tally + 1 else s.odo.tally - 1 } }
    have first : s.tick plus = t := State.genTick_off (s := t) off plus
    rw [State.ticks, first, ih (s := t) off]
    have one : BitVec.ofNat 32 (k + 1) = BitVec.ofNat 32 k + 1 := BitVec.ofNat_add k 1
    have up : ∀ x : Pos, x + 1 + BitVec.ofNat 32 k = x + BitVec.ofNat 32 (k + 1) := fun x => by
      rw [one]
      ring
    have down : ∀ x : Pos, x - 1 - BitVec.ofNat 32 k = x - BitVec.ofNat 32 (k + 1) := fun x => by
      rw [one]
      ring
    have more : ∀ x : Int, x + 1 + k = x + (k + 1 : Nat) := fun x => by omega
    have less : ∀ x : Int, x - 1 - k = x - (k + 1 : Nat) := fun x => by omega
    cases plus with
    | true => simp only [t, if_true, up, more]
    | false => simp only [t, Bool.false_eq_true, if_false, down, less]

/-- A lockout counter counts up to 65,535 (R52). -/
theorem MarkerUnit.count_eq (m : MarkerUnit) :
    m.count = { m with counter := min (m.counter + 1) (max 65535 m.counter) } := by
  have counter : (if m.counter < 65535 then m.counter + 1 else m.counter) =
      min (m.counter + 1) (max 65535 m.counter) := by
    split <;> omega
  rw [MarkerUnit.count, counter]

/-! ## Markers (R51, R53) -/

@[simp] theorem Odometer.marker_setMarker (o : Odometer) (m : Marker) (x : MarkerUnit) :
    (o.setMarker m x).marker m = x := by
  cases m <;> rfl

theorem Odometer.setMarker_setMarker (o : Odometer) (m : Marker) (x y : MarkerUnit) :
    (o.setMarker m x).setMarker m y = o.setMarker m y := by
  cases m <;> rfl

theorem MarkerUnit.isEvent_iff (x : MarkerUnit) (level : Bool) :
    x.isEvent level = true ↔ x.level ≠ level ∧ (x.edge = .rising ↔ level = true) := by
  unfold MarkerUnit.isEvent
  cases x.edge <;> cases x.level <;> cases level <;> simp

theorem MarkerUnit.accepts_iff (x : MarkerUnit) : x.accepts = true ↔ x.enabled = true ∧ x.lockout ≤ x.counter := by
  simp [MarkerUnit.accepts]

/-- The odometer after an accepted edge: the marker has its level and counts from 0, and a LOAD sets the position. -/
def Odometer.accepted (o : Odometer) (m : Marker) (level : Bool) : Odometer :=
  let x := o.marker m
  { o.setMarker m { x with level := level, counter := 0 } with
    position := if x.action = .load then x.load else o.position
    doubtful := if x.action = .load then false else o.doubtful }

theorem Odometer.marker_accepted (o : Odometer) (m n : Marker) (level : Bool) :
    (o.accepted m level).marker n = if n = m then { o.marker m with level := level, counter := 0 } else o.marker n := by
  cases m <;> cases n <;> rfl

/-- An accepted edge changes the marker, the position and the flag alone. -/
theorem Odometer.accepted_rest (o : Odometer) (m : Marker) (level : Bool) :
    { o.accepted m level with m0 := o.m0, m1 := o.m1, position := o.position, doubtful := o.doubtful } = o := by
  cases m <;> rfl

theorem State.markerChange_accepted {s : State} {m : Marker} {level : Bool}
    (h : ((s.odo.marker m).isEvent level && (s.odo.marker m).accepts) = true) :
    s.markerChange m level =
      (State.handRecord { s with odo := s.odo.accepted m level } (.mark m (s.odo.marker m).action s.runStepNo)).endPool := by
  unfold State.markerChange
  dsimp only
  rw [if_pos h]
  unfold State.acceptMarker Odometer.accepted
  simp only [Odometer.marker_setMarker, Odometer.setMarker_setMarker]
  cases (s.odo.marker m).action <;> cases m <;> rfl

theorem State.markerChange_ignored {s : State} {m : Marker} {level : Bool}
    (h : ¬ ((s.odo.marker m).isEvent level && (s.odo.marker m).accepts) = true) :
    s.markerChange m level = { s with odo := s.odo.setMarker m { s.odo.marker m with level := level } } := if_neg h

/-! ## Requests of the odometer (R49 to R51) -/

/-- SET SCALER's range test names D when D is out of range. -/
theorem scalerBad_den {num den : BitVec 16} (h : ¬ (1 ≤ den.toNat ∧ den.toNat ≤ 4096)) : scalerBad num den = some 2 := by
  simp only [scalerBad, inRange_eq_true, if_neg h]

/-- SET SCALER's range test names N when D is in range and N is not, or exceeds 8·D. -/
theorem scalerBad_num {num den : BitVec 16} (hd : 1 ≤ den.toNat ∧ den.toNat ≤ 4096)
    (h : ¬ (1 ≤ num.toNat ∧ num.toNat ≤ 4096 ∧ num.toNat ≤ 8 * den.toNat)) : scalerBad num den = some 1 := by
  simp only [scalerBad, inRange_eq_true, if_pos hd]
  split
  · next hn => rw [if_neg fun ratio => h ⟨hn.1, hn.2, ratio⟩]
  · rfl

theorem State.setScalerBy_range {s : State} {num den : BitVec 16} {n : Nat} (idle : s.run.state = .idle)
    (h : scalerBad num den = some n) : s.setScalerBy num den = (s, .refused (.range n)) := by
  rw [State.setScalerBy, if_pos idle, h]

theorem State.setScalerBy_done {s : State} {num den : BitVec 16} (idle : s.run.state = .idle)
    (h : scalerBad num den = none) :
    s.setScalerBy num den =
      ({ s with odo := { s.odo with num := num.toNat, den := den.toNat, rem := 0 } }, .done .nothing) := by
  rw [State.setScalerBy, if_pos idle, h]

theorem markerChecks_eq (marker enabled edge action : Byte) :
    markerChecks marker enabled edge action =
      [decide (marker.toNat ≤ 1), decide (enabled.toNat ≤ 1), decide (edge.toNat ≤ 1), true,
        decide (action.toNat ≤ 1)] := by
  simp [markerChecks, isFlag, inRange]

theorem State.setMarkerBy_range {s : State} {marker enabled edge action : Byte} {lockout : BitVec 16} {load : Pos}
    {n : Nat} (h : firstBad (markerChecks marker enabled edge action) = some n) :
    s.setMarkerBy marker enabled edge lockout action load = (s, .refused (.range n)) := by
  rw [State.setMarkerBy, h]

/-- The byte that names a marker (11.2). -/
def markerByte (m : Marker) : Byte := match m with | .m0 => 0 | .m1 => 1

theorem markerByte_le (m : Marker) : (markerByte m).toNat ≤ 1 := by cases m <;> decide

/-- The fields that carry a marker's configuration are in range, and stand for it. -/
theorem State.setMarkerBy_done (s : State) (m : Marker) (on falling load : Bool) (lockout : BitVec 16) (value : Pos) :
    s.setMarkerBy (markerByte m) (flagByte on) (flagByte falling) lockout (flagByte load) value =
      ({ s with
          odo := s.odo.setMarker m
            { enabled := on, edge := if falling then .falling else .rising, lockout := lockout.toNat,
              action := if load then .load else .mark, load := value, counter := 65535,
              level := (s.odo.marker m).level } },
        .done .nothing) := by
  have passes : firstBad (markerChecks (markerByte m) (flagByte on) (flagByte falling) (flagByte load)) = none := by
    rw [firstBad_eq_none_iff, markerChecks_eq]
    simp [flagByte_le, markerByte_le]
  have named : markerOf (markerByte m) = m := by cases m <;> rfl
  rw [State.setMarkerBy, passes, named]
  have edge : (if (flagByte falling).toNat = 0 then Edge.rising else .falling) =
      if falling then .falling else .rising := by cases falling <;> rfl
  have action : (if (flagByte load).toNat = 0 then MarkerAction.mark else .load) =
      if load then .load else .mark := by cases load <;> rfl
  simp only [MarkerUnit.configure, flagOf_flagByte, edge, action]

/-! ## The release of RESET (R43, R164) -/

theorem Hub.ports_sampled (h : Hub) (present : PortSet) (p : Port) :
    (Hub.mk h.pool (h.ports.mapIdx fun i u => u.sample (present.getLsbD i))).ports[p] =
      (h.ports[p]).sample (present.getLsbD p.val) := by
  simp

end Sys2Proof.Machine

namespace Sys2Proof.Proofs
open Sys2Proof.Machine

/-- Settles O4: the ports sampled one by one at the release, and an ABSENT port that becomes READY. -/
theorem releaseAndPresentLines : Obligations.ReleaseAndPresentLines := by
  refine ⟨fun s a b x y present low => ?_, fun s p released => whileReleased_released released fun t => t.presentRises p⟩
  refine ⟨Hub.mk s.hub.pool (s.hub.ports.mapIdx fun i u => u.sample (present.getLsbD i)), ?_, rfl, fun p => ?_⟩
  · exact congrArg _ (if_pos low)
  · unfold Hub.dist Hub.ctl
    rw [Hub.ports_sampled]
    unfold PortUnit.sample
    split <;> exact ⟨rfl, rfl⟩

/-- Settles O5: the judgement of the pair, the scaler's arithmetic, and the ticks of a count in OFF. -/
theorem validCountsGiveTicks : Obligations.ValidCountsGiveTicks := by
  refine ⟨fun plus s => rfl, fun plus n s => rfl, fun s a b plus low small ha hb => ?_⟩
  subst ha hb
  obtain ⟨below, used, few⟩ := Odometer.scale_spec small plus
  refine ⟨(s.odo.scale plus).1, (s.odo.scale plus).2, _, below, used, few, rfl, ?_, fun off => ?_⟩
  · refine (whileReleased_released low fun t => t.transition _ _).trans ?_
    rw [State.transition_count]
    unfold State.count
    simp only [MarkerUnit.count_eq]
    rfl
  · exact State.ticks_off (by exact off) plus _

/-- Settles O6. -/
theorem encoderFaultIsNoted : Obligations.EncoderFaultIsNoted := by
  intro s low
  refine (whileReleased_released low fun t => t.transition _ _).trans ?_
  rw [State.transition, judge_fault]
  rfl

/-- Settles O9. -/
theorem speedWindowTakesTheTally : Obligations.SpeedWindowTakesTheTally :=
  fun _ low => whileReleased_released low State.speedWindow

/-- Settles O10: an edge is accepted exactly if it is an event in the configured direction of a marker that accepts. -/
theorem markerEdgesAreAcceptedOrIgnored : Obligations.MarkerEdgesAreAcceptedOrIgnored := by
  intro s m level low x event
  have run : exec (.markerEdge m level) s = .next (s.markerChange m level) :=
    whileReleased_released low fun t => t.markerChange m level
  have accepts : (event ∧ x.enabled = true ∧ x.lockout ≤ x.counter) ↔ (x.isEvent level && x.accepts) = true := by
    rw [Bool.and_eq_true, MarkerUnit.isEvent_iff, MarkerUnit.accepts_iff]
  rw [run, accepts]
  refine ⟨fun h => ⟨s.odo.accepted m level, ?_, fun n hn => ?_, fun load => ?_, fun mark => ?_, ?_, ?_⟩, fun h => ?_⟩
  · exact (s.odo.marker_accepted m m level).trans (if_pos rfl)
  · exact (s.odo.marker_accepted m n level).trans (if_neg hn)
  · exact ⟨if_pos load, if_pos load⟩
  · have notLoad : x.action ≠ .load := by rw [mark]; decide
    exact ⟨if_neg notLoad, if_neg notLoad⟩
  · exact s.odo.accepted_rest m level
  · rw [State.markerChange_accepted h]
    rfl
  · rw [State.markerChange_ignored h]

/-- Settles O46: the three requests by the holder, each by the tests of its fields. -/
theorem odometerRequestsReplaceValues : Obligations.OdometerRequestsReplaceValues := by
  refine ⟨fun s p tag num den h hold => ⟨fun active => ?_, fun idle bad => ?_, fun idle low high bad => ?_,
      fun idle low high numLow numHigh ratio => ?_⟩, fun s p tag position h hold => ?_,
    fun s p tag m on falling load lockout value h hold => ?_,
    fun s p tag marker enabled edge lockout action load n h hold first => ?_⟩
  · exact State.request_refused h hold tag 0x17 fun k => if_neg active
  · exact State.request_refused h hold tag 0x17 fun k => State.setScalerBy_range idle (scalerBad_den bad)
  · exact State.request_refused h hold tag 0x17 fun k => State.setScalerBy_range idle (scalerBad_num ⟨low, high⟩ bad)
  · have ok := (scalerBad_eq_none_iff num den).2 ⟨⟨low, high⟩, ⟨numLow, numHigh⟩, ratio⟩
    exact State.request_holder h hold tag 0x17
      { s with odo := { s.odo with num := num.toNat, den := den.toNat, rem := 0 } } rfl
      (State.setScalerBy_done idle ok)
  · exact State.request_holder h hold tag 0x18 { s with odo := { s.odo with position := position, doubtful := false } }
      rfl rfl
  · exact State.request_holder h hold tag 0x19
      { s with
        odo := s.odo.setMarker m
          { enabled := on, edge := if falling then .falling else .rising, lockout := lockout.toNat,
            action := if load then .load else .mark, load := value, counter := 65535,
            level := (s.odo.marker m).level } }
      rfl (State.setMarkerBy_done (s.withHub (s.hub.setCtl p (s.hub.ctl p).taken)) m on falling load lockout value)
  · rw [← markerChecks_eq, ← firstBad_eq_some_iff] at first
    exact State.request_refused h hold tag 0x19 fun k => State.setMarkerBy_range first

end Sys2Proof.Proofs
end

section
/-! SUPPORT. Ticks and issued steps: what an issued step and what follows it leave of the generator and the odometer, the
pending step of a busy rail, and the start of a run. Settled here: O7, O8, O11, O47. -/

namespace Sys2Proof.Machine

/-! ## What a step leaves standing (R58 to R62) -/

/-- From `s` to `t` the odometer, the displacement, the frontier and the source stand, and a generator that has left
ISSUING has stopped its timer. -/
structure State.TrackStands (s t : State) : Prop where
  odo : t.odo = s.odo
  disp : t.gen.disp = s.gen.disp
  frontier : t.gen.frontier = s.gen.frontier
  source : t.gen.source = s.gen.source
  timer : (s.gen.state ≠ .issuing → s.gen.timer = none) → t.gen.state ≠ .issuing → t.gen.timer = none

section trackStands
variable {s t u : State}

theorem State.TrackStands.refl (s : State) : s.TrackStands s := ⟨rfl, rfl, rfl, rfl, id⟩

theorem State.TrackStands.trans (h : s.TrackStands t) (k : t.TrackStands u) : s.TrackStands u :=
  ⟨k.odo.trans h.odo, k.disp.trans h.disp, k.frontier.trans h.frontier, k.source.trans h.source,
    fun x => k.timer (h.timer x)⟩

theorem State.TrackStands.same (odo : t.odo = s.odo) (gen : t.gen = s.gen) : s.TrackStands t := by
  refine ⟨odo, ?_, ?_, ?_, ?_⟩ <;> rw [gen]
  exact id

theorem SameOutside.stands (h : SameOutside s t) : s.TrackStands t := .same h.odo h.gen

end trackStands

theorem State.stands_haltAtLimit (s : State) : s.TrackStands s.haltAtLimit := by
  unfold State.haltAtLimit
  split
  · exact ⟨rfl, rfl, rfl, rfl, fun _ _ => rfl⟩
  · exact .refl s

/-- Outside the rails an issued step changes the step number, and what the limit changes (R58, R62). -/
theorem State.issue_outside (s : State) :
    ∃ u, SameOutside { s with gen := { s.gen with stepNo := s.gen.stepNo + 1 } } u ∧
      SameOutside u.haltAtLimit s.issue := by
  let st : Step := { no := s.gen.stepNo + 1, pos := s.odo.position }
  let t : State := { s with gen := { s.gen with stepNo := st.no } }
  refine ⟨(t.stepArrives .a st).stepArrives .b st,
    (sameOutside_stepArrives t .a st).trans (sameOutside_stepArrives _ .b st), ?_⟩
  rw [State.issue_eq]
  dsimp only
  split
  · exact sameOutside_pass _
  · exact .refl _

theorem State.stands_issue (s : State) : s.TrackStands s.issue := by
  obtain ⟨u, arrived, halted⟩ := s.issue_outside
  have numbered : s.TrackStands { s with gen := { s.gen with stepNo := s.gen.stepNo + 1 } } :=
    ⟨rfl, rfl, rfl, rfl, id⟩
  exact ((numbered.trans arrived.stands).trans u.stands_haltAtLimit).trans halted.stands

theorem State.stands_complete (s : State) : s.TrackStands s.complete := by
  rw [State.complete_eq]
  exact ⟨rfl, rfl, rfl, rfl, fun _ _ => rfl⟩

theorem State.stands_completeIfDue (s : State) : s.TrackStands s.completeIfDue := by
  unfold State.completeIfDue
  split
  · exact s.stands_complete
  · exact .refl s

theorem State.stands_advanceBoundary (s : State) : s.TrackStands s.advanceBoundary := ⟨rfl, rfl, rfl, rfl, id⟩

theorem State.stands_issueReached (n : Nat) (s : State) : s.TrackStands (State.issueReached n s) := by
  induction n generalizing s with
  | zero => exact .refl s
  | succ n ih =>
    unfold State.issueReached
    split
    · exact ((s.stands_advanceBoundary.trans (State.stands_issue _)).trans (State.stands_completeIfDue _)).trans (ih _)
    · exact .refl s

/-- The swap of the banks moves the next boundary alone (R60). -/
theorem State.stands_swapBanks (s : State) (sig : BitVec 32) (p : Port) : s.TrackStands (s.swapBanks sig p) := by
  have odo := s.odo_swapBanks sig p
  have gen := congrArg State.gen (s.swapBanks_eq sig p)
  by_cases off : s.gen.state = .off
  · exact .same odo (gen.trans (if_pos off))
  · have moved := gen.trans (if_neg off)
    exact ⟨odo, by rw [moved], by rw [moved], by rw [moved], by rw [moved]; exact id⟩

theorem State.stands_swap (s : State) : s.TrackStands s.swap := by
  unfold State.swap
  split
  · exact (s.stands_swapBanks _ _).trans (State.stands_issueReached _ _)
  · exact .refl s

theorem State.stands_swapIfDue (s : State) : s.TrackStands s.swapIfDue := by
  unfold State.swapIfDue
  split
  · exact s.stands_swap
  · exact .refl s

theorem State.stands_afterCycles (s : State) : s.TrackStands s.afterCycles := by
  unfold State.afterCycles
  split
  · have counted : s.TrackStands { s with freeCount := s.freeCount + 1 } := ⟨rfl, rfl, rfl, rfl, id⟩
    dsimp only
    split
    · exact (counted.trans (State.stands_swap _)).trans (State.stands_completeIfDue _)
    · exact (counted.trans (State.stands_complete _)).trans (State.stands_swapIfDue _)
  · exact s.stands_completeIfDue.trans (State.stands_swapIfDue _)

/-! ## The step number (R58, R60) -/

theorem State.stepNo_haltAtLimit (s : State) : s.haltAtLimit.gen.stepNo = s.gen.stepNo := by
  unfold State.haltAtLimit
  split <;> rfl

theorem State.stepNo_issue (s : State) : s.issue.gen.stepNo = s.gen.stepNo + 1 := by
  obtain ⟨u, arrived, halted⟩ := s.issue_outside
  rw [halted.gen, State.stepNo_haltAtLimit, arrived.gen]

theorem State.stepNo_complete (s : State) : s.complete.gen.stepNo = s.gen.stepNo := by
  rw [State.complete_eq]

theorem State.stepNo_completeIfDue (s : State) : s.completeIfDue.gen.stepNo = s.gen.stepNo := by
  unfold State.completeIfDue
  split
  · exact s.stepNo_complete
  · rfl

/-- Under TIMED a swap issues no step (log 22). -/
theorem State.stepNo_swap {s : State} (timed : s.gen.source = .timed) : s.swap.gen.stepNo = s.gen.stepNo := by
  unfold State.swap
  split
  · next sig p _ _ =>
    have still : ¬ (s.swapBanks sig p).boundaryReached := fun reached =>
      reached.2.1 ((s.stands_swapBanks sig p).source.trans timed)
    rw [State.issueReached_still still, State.swapBanks_eq]
    dsimp only
    split <;> rfl
  · rfl

theorem State.stepNo_swapIfDue {s : State} (timed : s.gen.source = .timed) :
    s.swapIfDue.gen.stepNo = s.gen.stepNo := by
  unfold State.swapIfDue
  split
  · exact State.stepNo_swap timed
  · rfl

theorem State.stepNo_afterCycles {s : State} (timed : s.gen.source = .timed) :
    s.afterCycles.gen.stepNo = s.gen.stepNo := by
  unfold State.afterCycles
  split
  · let t := { s with freeCount := s.freeCount + 1 }
    dsimp only
    split
    · rw [State.stepNo_completeIfDue]
      exact State.stepNo_swap (s := t) timed
    · rw [State.stepNo_swapIfDue (t.stands_complete.source.trans timed)]
      exact t.stepNo_complete
  · rw [State.stepNo_swapIfDue (s.stands_completeIfDue.source.trans timed), State.stepNo_completeIfDue]

/-- Without a pending commit no swap follows a cycle's end (R37). -/
theorem State.afterCycles_noSwap {s : State} (h : s.plan.commit ≠ .pending) : s.afterCycles = s.completeIfDue := by
  have idle : ∀ t : State, t.plan.commit ≠ .pending → t.swapDue = false := fun t ht => by simp [State.swapDue, ht]
  have after : s.completeIfDue.swapDue = false := idle _ (by rw [State.plan_completeIfDue]; exact h)
  simp [State.afterCycles, State.swapIfDue, idle s h, after]

/-! ## The pending step of a busy rail (R65) -/

/-- The work of one rail upon a step leaves the other rail and its request as they are. -/
theorem State.stepArrives_other (s : State) {q r : Rail} (h : r ≠ q) (st : Step) :
    (s.stepArrives q st).seq r = s.seq r ∧ (s.stepArrives q st).arb.req r = s.arb.req r :=
  (State.railWork_of (rails := fun x => x = q) rfl (s.worksOn_stepArrives q st)).untouched h

theorem State.haltAtLimit_rails (s : State) (r : Rail) :
    s.haltAtLimit.seq r = s.seq r ∧ s.haltAtLimit.arb = s.arb := by
  unfold State.haltAtLimit
  split
  · exact ⟨by cases r <;> rfl, rfl⟩
  · exact ⟨rfl, rfl⟩

/-- A LISTENING rail without a pending step and without a waiting request keeps an issued step as its pending one. -/
theorem State.seq_issue_keeps {s : State} {r : Rail} (listening : (s.seq r).state = .listening)
    (free : (s.seq r).waiting = none) (request : s.arb.req r = none) :
    s.issue.seq r = { s.seq r with waiting := some { no := s.gen.stepNo + 1, pos := s.odo.position } } := by
  let st : Step := { no := s.gen.stepNo + 1, pos := s.odo.position }
  let t : State := { s with gen := { s.gen with stepNo := st.no } }
  let kept : Sequencer := { s.seq r with waiting := some st }
  have same : t.seq r = s.seq r := by cases r <;> rfl
  have own : ∀ v : State, v.seq r = s.seq r →
      (v.stepArrives r st).seq r = kept ∧ (v.stepArrives r st).arb = v.arb := fun v hv => by
    rw [State.stepArrives_keeps st (.inr (hv ▸ listening)) (hv ▸ free), hv]
    exact ⟨State.seq_setSeq v r kept, State.arb_setSeq v r kept⟩
  have arrived : ((t.stepArrives .a st).stepArrives .b st).seq r = kept ∧
      ((t.stepArrives .a st).stepArrives .b st).arb.req r = none := by
    cases r with
    | a =>
      obtain ⟨seq, req⟩ := (t.stepArrives .a st).stepArrives_other (q := .b) (r := .a) (by decide) st
      rw [seq, req, (own t same).1, (own t same).2]
      exact ⟨rfl, request⟩
    | b =>
      obtain ⟨seq, req⟩ := t.stepArrives_other (q := .a) (r := .b) (by decide) st
      obtain ⟨seqB, arb⟩ := own _ (seq.trans same)
      rw [seqB, arb, req]
      exact ⟨rfl, request⟩
  obtain ⟨seq, arb⟩ := State.haltAtLimit_rails ((t.stepArrives .a st).stepArrives .b st) r
  rw [State.issue_eq]
  dsimp only
  split
  · rw [((State.railWork_pass _).untouched _).1]
    · exact seq.trans arrived.1
    · rw [arb]
      exact not_not_intro arrived.2
  · exact seq.trans arrived.1

/-- While that rail listens, nothing follows the step. -/
theorem State.afterCycles_issue_keeps {s : State} {r : Rail} (listening : (s.seq r).state = .listening)
    (free : (s.seq r).waiting = none) (request : s.arb.req r = none) : s.issue.afterCycles = s.issue :=
  State.afterCycles_busy (r := r) (.inr (by rw [State.seq_issue_keeps listening free request]; exact listening))

/-- The restart of the step timer and the end of the event change the timer, and the road of records, alone (R61). -/
theorem State.endPool_restart (s : State) :
    let t := s.restartStepTimer.endPool
    t.odo = s.odo ∧ t.bank = s.bank ∧ (∀ r, t.seq r = s.seq r) ∧
      t.gen = if s.gen.state = .issuing then { s.gen with timer := some s.bank.settings.period } else s.gen := by
  intro t
  have ended := sameOutside_endPool s.restartStepTimer
  have seqs : ∀ r, t.seq r = s.restartStepTimer.seq r := fun r => by
    unfold t
    rw [State.endPool_eq, State.seq_withHub]
  rw [show _ = _ from ended.odo, show _ = _ from ended.bank, show _ = _ from ended.gen]
  simp only [seqs]
  unfold State.restartStepTimer
  split
  · exact ⟨rfl, rfl, fun r => by cases r <;> rfl, rfl⟩
  · exact ⟨rfl, rfl, fun _ => rfl, rfl⟩

/-! ## Ticks (R47, R48, R57 to R59) -/

/-- The part in which a tick has moved the position and the tally. -/
def State.counted (s : State) (plus : Bool) : State :=
  { s with
    odo :=
      { s.odo with
        position := if plus then s.odo.position + 1 else s.odo.position - 1
        tally := if plus then s.odo.tally + 1 else s.odo.tally - 1 } }

@[simp] theorem State.gen_counted (s : State) (plus : Bool) : (s.counted plus).gen = s.gen := rfl

theorem State.tick_eq (s : State) (plus : Bool) : s.tick plus = (s.counted plus).genTick plus := rfl

theorem StepGen.ticked_eq (g : StepGen) (plus : Bool) :
    g.ticked plus =
      g.disp.toInt + (if g.source = .reverse then (if plus then -1 else 1) else if plus then 1 else -1) := by
  unfold StepGen.ticked StepSource.increases
  cases g.source <;> cases plus <;> rfl

theorem toInt_ofInt_48 {x : Int} (low : -(2 ^ 47) ≤ x) (high : x < 2 ^ 47) : (BitVec.ofInt 48 x).toInt = x :=
  BitVec.toInt_ofInt_eq_self (by decide) low high

/-- A tick with d in its range: d takes its new value, the frontier follows it, and a frontier that rises to the next
boundary issues a step. -/
theorem State.tick_on {s : State} (on : s.gen.state ≠ .off) {plus : Bool} {x : Int} (hx : x = s.gen.ticked plus)
    (low : -(2 ^ 47) ≤ x) (high : x < 2 ^ 47) :
    let t := (s.counted plus).follow (BitVec.ofInt 48 x) s.freeCount
    s.tick plus =
      if s.gen.frontier.toInt < x ∧ s.gen.state = .issuing ∧ s.gen.source ≠ .timed ∧ x = (s.gen.nextBoundary : Int) then
        t.advanceBoundary.issue.afterCycles
      else t := by
  subst hx
  obtain ⟨d, n, ranged, e⟩ := State.genTick_on (s := s.counted plus) on plus
  obtain ⟨rfl, rfl⟩ := ranged low high
  rw [State.tick_eq, e, State.gen_counted, toInt_ofInt_48 low high]
  rfl

/-- What a step brings moves neither the displacement nor the frontier. -/
theorem State.stands_follow (s : State) (d : BitVec 48) (n : Nat) :
    (s.follow d n).TrackStands (s.follow d n).advanceBoundary.issue.afterCycles :=
  ((State.stands_advanceBoundary _).trans (State.stands_issue _)).trans (State.stands_afterCycles _)

theorem StepGen.follow_rises {g : StepGen} {x : Int} (low : -(2 ^ 47) ≤ x) (high : x < 2 ^ 47)
    (rises : g.frontier.toInt < x) :
    g.follow (BitVec.ofInt 48 x) = { g with disp := BitVec.ofInt 48 x, frontier := BitVec.ofInt 48 x } := by
  rw [StepGen.follow, toInt_ofInt_48 low high, if_pos rises]

theorem StepGen.follow_stays {g : StepGen} {x : Int} (low : -(2 ^ 47) ≤ x) (high : x < 2 ^ 47)
    (behind : x ≤ g.frontier.toInt) : g.follow (BitVec.ofInt 48 x) = { g with disp := BitVec.ofInt 48 x } := by
  rw [StepGen.follow, toInt_ofInt_48 low high, if_neg (not_lt.2 behind)]

/-- The frontier rises with the displacement. -/
theorem StepGen.follow_toInt (g : StepGen) {x : Int} (low : -(2 ^ 47) ≤ x) (high : x < 2 ^ 47) :
    (g.follow (BitVec.ofInt 48 x)).disp.toInt = x ∧
      (g.follow (BitVec.ofInt 48 x)).frontier.toInt = max g.frontier.toInt x := by
  refine ⟨toInt_ofInt_48 low high, ?_⟩
  by_cases behind : x ≤ g.frontier.toInt
  · rw [StepGen.follow_stays low high behind, max_eq_left behind]
  · have rises := not_le.1 behind
    rw [StepGen.follow_rises low high rises, max_eq_right rises.le]
    exact toInt_ofInt_48 low high

/-- The part in which a tick has raised the frontier to the next boundary, and the boundaries have moved up (R58). -/
def State.reached (s : State) (plus : Bool) : State :=
  { s.counted plus with
    gen :=
      { s.gen with
        disp := BitVec.ofInt 48 s.gen.nextBoundary
        frontier := BitVec.ofInt 48 s.gen.nextBoundary
        lastBoundary := s.gen.nextBoundary
        nextBoundary := s.gen.nextBoundary + s.bank.settings.pitch } }

/-- A tick that raises the frontier to the next boundary issues a step (R58). -/
theorem State.tick_reaches {s : State} {plus : Bool} (issuing : s.gen.state = .issuing) (source : s.gen.source ≠ .timed)
    (level : s.gen.disp = s.gen.frontier) (sign : plus = decide (s.gen.source = .forward))
    (high : s.gen.frontier.toInt + 1 < 2 ^ 47) (reaches : s.gen.frontier.toInt + 1 = (s.gen.nextBoundary : Int)) :
    s.tick plus = (s.reached plus).issue.afterCycles := by
  have up : s.gen.source.increases plus = true := by
    subst sign
    cases h : s.gen.source <;> simp_all [StepSource.increases]
  have next : (s.gen.nextBoundary : Int) = s.gen.ticked plus := by
    rw [StepGen.ticked, up, level, if_pos rfl]
    exact reaches.symm
  have low : -(2 ^ 47) ≤ (s.gen.nextBoundary : Int) := by omega
  have rises : s.gen.frontier.toInt < (s.gen.nextBoundary : Int) := by omega
  have inside : (s.gen.nextBoundary : Int) < 2 ^ 47 := reaches ▸ high
  have follows : ((s.counted plus).follow (BitVec.ofInt 48 s.gen.nextBoundary) s.freeCount).advanceBoundary =
      s.reached plus := by
    rw [State.follow, State.gen_counted, StepGen.follow_rises low inside rises]
    rfl
  rw [State.tick_on (by rw [issuing]; decide) next low inside, if_pos ⟨rises, issuing, source, rfl⟩, follows]

/-! ## The start of a run (R56, R82, R111, R153) -/

/-- A run begins with the spray lines off: every probe is UNKNOWN (R111, R118). -/
theorem State.beginRun_eq (s : State) (limit : BitVec 24) (label : BitVec 16) :
    s.beginRun limit label =
      { s with
        run := { s.run with state := .running, number := nextRun s.run.number, label := label, limit := limit }
        gen := StepGen.started s.bank.settings
        coup := { probes := Vector.replicate 24 ProbeCoupling.reset, sprayA := false, sprayB := false }
        seqA := Sequencer.started
        seqB := Sequencer.started } := by
  have dry : ∀ r (t : State), t.coup.probes = Vector.replicate 24 ProbeCoupling.reset → t.sprayDue r = false := by
    intro r t h
    have unknown : ∀ i : ProbeNo, t.coup.probes[i].state ≠ .uncoupled := fun i => by
      simp [h, ProbeCoupling.reset]
    unfold State.sprayDue
    rw [Bool.and_eq_false_iff, List.any_eq_false]
    exact .inr fun i _ => by simpa using unknown i
  unfold State.beginRun State.refreshSpray
  rw [dry .a _ rfl, dry .b _ rfl]

end Sys2Proof.Machine

namespace Sys2Proof.Proofs
open Sys2Proof.Machine

/-- Settles O7: the generator leaves the odometer as the tick has moved it, and what a step brings moves neither d
nor F. -/
theorem tickMovesTheFrontier : Obligations.TickMovesTheFrontier := by
  refine fun s plus => ⟨?_, fun off => ?_, fun x on hx low high => ?_⟩
  · by_cases off : s.gen.state = .off
    · rw [State.tick_eq, State.genTick_off (by exact off)]
      rfl
    · obtain ⟨d, n, -, e⟩ := State.genTick_on (s := s.counted plus) off plus
      rw [State.tick_eq, e]
      split
      · exact (State.stands_follow _ d n).odo
      · rfl
  · rw [State.tick_eq, State.genTick_off (by exact off)]
    rfl
  · rw [← StepGen.ticked_eq] at hx
    have follows : ∀ t : State, ((s.counted plus).follow (BitVec.ofInt 48 x) s.freeCount).TrackStands t →
        t.gen.disp.toInt = x ∧ t.gen.frontier.toInt = max s.gen.frontier.toInt x := fun t stands => by
      have followed : ((s.counted plus).follow (BitVec.ofInt 48 x) s.freeCount).gen =
        s.gen.follow (BitVec.ofInt 48 x) := rfl
      rw [stands.disp, stands.frontier, followed]
      exact StepGen.follow_toInt s.gen low high
    rw [State.tick_on on hx low high]
    split
    · exact follows _ (State.stands_follow _ _ _)
    · exact follows _ (.refl _)

/-- Settles O8: the tick that reaches the boundary is the step's issue with what follows it, and one that raises no
frontier moves d alone. -/
theorem stepsAreIssuedAtBoundaries : Obligations.StepsAreIssuedAtBoundaries := by
  refine ⟨fun s plus issuing source noCommit level sign high reaches => ?_,
    fun s plus issuing source level sign high reaches => ?_, fun s plus x on hx low high behind => ?_⟩
  · rw [State.tick_reaches issuing source level sign high reaches]
    have commit : (s.reached plus).issue.plan.commit ≠ .pending := by
      rw [State.plan_issue]
      exact noCommit
    have moved := (State.sameBoundaries_issue (s.reached plus)).trans (State.sameBoundaries_completeIfDue _)
    rw [State.afterCycles_noSwap commit]
    refine ⟨?_, moved.2.1, moved.2.2, fun r listening free request => ?_⟩
    · rw [State.stepNo_completeIfDue, State.stepNo_issue]
      rfl
    · have seq : (s.reached plus).seq r = s.seq r := by cases r <;> rfl
      rw [← seq] at listening free
      rw [← State.afterCycles_noSwap commit, State.afterCycles_issue_keeps listening free request,
        State.seq_issue_keeps listening free request]
      rfl
  · intro pos st moved u
    rw [State.tick_reaches issuing source level sign high reaches, State.issue_eq]
    rfl
  · rw [← StepGen.ticked_eq] at hx
    rw [State.tick_on on hx low high, if_neg (fun rises => absurd rises.1 (not_lt.2 behind))]
    rw [State.follow, State.gen_counted, StepGen.follow_stays low high behind]
    rfl

/-- Settles O11: the issue with what follows it and the restart, and the rails that listen. -/
theorem stepTimerIssuesSteps : Obligations.StepTimerIssuesSteps := by
  refine ⟨fun s low issuing timed runs => ?_, fun s low other => ?_⟩
  · intro st u v
    have whole : s.issue.afterCycles = v := by rw [State.issue_eq]
    have stands : s.TrackStands v := whole ▸ s.stands_issue.trans (State.stands_afterCycles _)
    have number : v.gen.stepNo = s.gen.stepNo + 1 := by
      rw [← whole, State.stepNo_afterCycles (s.stands_issue.source.trans timed), State.stepNo_issue]
    have run : exec .stepTimerExpiry s = .next v.restartStepTimer.endPool := by
      rw [← whole]
      exact (whileReleased_released low State.timerExpiry).trans (congrArg _ (if_pos ⟨issuing, timed, runs⟩))
    have listens : ∀ r, (s.seq r).state = .listening → (s.seq r).waiting = none → s.arb.req r = none →
        (v.seq r).waiting = some st := fun r listening free request => by
      rw [← whole, State.afterCycles_issue_keeps listening free request,
        State.seq_issue_keeps listening free request]
    obtain ⟨odo, bank, seqs, gen⟩ := v.endPool_restart
    refine ⟨v.restartStepTimer.endPool, rfl, run, ?_⟩
    rw [show _ = _ from odo, show _ = _ from bank, show _ = _ from gen]
    by_cases goesOn : v.gen.state = .issuing
    · rw [if_pos goesOn]
      exact ⟨number, stands.disp, stands.frontier, stands.odo, fun _ => rfl, fun c => absurd goesOn c,
        fun r a b c => (congrArg Sequencer.waiting (seqs r)).trans (listens r a b c)⟩
    · rw [if_neg goesOn]
      have stopped : v.gen.timer = none := stands.timer (fun c => absurd issuing c) goesOn
      exact ⟨number, stands.disp, stands.frontier, stands.odo, fun c => absurd c goesOn, fun _ => stopped,
        fun r a b c => (congrArg Sequencer.waiting (seqs r)).trans (listens r a b c)⟩
  · refine (whileReleased_released low State.timerExpiry).trans (congrArg _ (if_neg fun h => other ⟨h.1, h.2.1⟩))

/-- Settles O47: the run begun as the model begins it, with the spray lines off as no probe is UNCOUPLED. -/
theorem startRunBeginsARun : Obligations.StartRunBeginsARun := by
  refine ⟨fun s p tag limit label h idle => ?_, fun s p tag limit label h active => ?_⟩
  · intro number waiting
    let v := s.withHub (s.hub.setCtl p (s.hub.ctl p).taken)
    have served : v.startBy limit label =
        (((v.beginRun limit label).handRecord (.run .start label 0)).endPool, .done (.runNumber number)) := if_pos idle
    have ready : (v.hub.ctl p).state ≠ .heldTake := by simp [v, PortCtl.state_taken h.2]
    have kept : ((v.beginRun limit label).handRecord (.run .start label 0)).endPool.hub.ctl p = (s.hub.ctl p).taken :=
      (((State.keepsCtl_handRecord p (v.beginRun limit label) _).trans (State.keepsCtl_endPool p _)) ready).trans
        (Hub.ctl_setCtl_self _ _ _)
    obtain ⟨t, run, answered⟩ := State.request_kept h tag 0x0B (serve := fun x => x.startBy limit label) served kept
    refine ⟨t, run, ?_⟩
    rw [State.beginRun_eq] at answered
    exact answered
  · exact State.request_unchanged h tag 0x0B (if_neg active)

end Sys2Proof.Proofs
end

section
/-! SUPPORT. What a rail does in a pass and at the end of its group: the omission of a refused group, the passes that
find no request, and the release of a rail's channels. Settled here: O14, O15. -/

namespace Sys2Proof.Machine

/-! ## The omission of a refused group (R72, R79, R95) -/

/-- An omission leaves its rail as it is but for the open skip run, which then ends with the omitted step and covers
what the omission does (R78 to R80). -/
theorem State.omission_run (s : State) (r : Rail) (k : StepNo) (probes : RailProbes) :
    ∃ run x, (s.omission r k (.probeSet probes)).seq r = { s.seq r with skip := some run } ∧ run.last = k ∧
      run.cover = .probeSet (x ||| probes) := by
  have opened : (.probeSet probes : Coverage) = .probeSet ((0 : RailProbes) ||| probes) :=
    congrArg _ (BitVec.zero_or).symm
  cases open? : (s.seq r).skip with
  | none =>
    refine ⟨{ first := k, last := k, cover := .probeSet probes }, 0, ?_, rfl, opened⟩
    rw [State.omission_opens open?, State.seq_setSeq]
  | some run =>
    cases joins : run.join k (.probeSet probes) with
    | none =>
      refine ⟨{ first := k, last := k, cover := .probeSet probes }, 0, ?_, rfl, opened⟩
      rw [State.omission_closes open? joins, State.seq_setSeq]
    | some joined =>
      have own := State.omission_joins open? joins
      unfold SkipRun.join at joins
      split at joins
      · cases cover : run.cover with
        | wholeSteps => simp [cover, Coverage.join] at joins
        | probeSet x =>
          rw [cover] at joins
          cases joins
          exact ⟨_, x, by rw [own, State.seq_setSeq], rfl, rfl⟩
      · cases joins

/-- A group's probes within its rail (R72). -/
theorem groupProbes_getLsbD (b : Bank) (g : List BlockIx) {n : Nat} (hn : n < 12) :
    (groupProbes b g).getLsbD n = true ↔ ∃ i ∈ g, (b.block i).probe.val % 12 = n := by
  have within : ∀ p : ProbeNo, withinRail p = p.val % 12 := by decide
  have gathered : ∀ acc : RailProbes,
      (g.foldl (fun acc i => acc ||| BitVec.twoPow 12 (withinRail (b.block i).probe)) acc).getLsbD n = true ↔
        acc.getLsbD n = true ∨ ∃ i ∈ g, (b.block i).probe.val % 12 = n := by
    induction g with
    | nil => simp
    | cons i g ih =>
      intro acc
      rw [List.foldl_cons, ih]
      simp [within, hn, or_assoc, eq_comm (a := n)]
  simpa [groupProbes] using gathered 0

/-! ## What a pass considers (R92 to R95) -/

section consider
variable {s : State} {r : Rail} {st : Step} {k : Nat}

theorem State.consider_waits (hr : s.arb.req r = some k) (hc : (s.seq r).current = some st)
    (few : s.freeChans.length < k) : s.consider r = (s, .waits) := by
  simp only [State.consider, hr, hc, if_neg (Nat.not_le_of_lt few)]

theorem State.consider_refuses (hr : s.arb.req r = some k) (hc : (s.seq r).current = some st)
    (chans : k ≤ s.freeChans.length) (slots : s.hub.pool.freeSlots < k + 16) :
    s.consider r = (s.omitGroup r st, .refused) := by
  have few : ¬ k + Config.slotReserve ≤ s.hub.pool.freeSlots := Nat.not_le_of_lt slots
  simp only [State.consider, hr, hc, if_pos chans, if_neg few]

end consider

/-- A pass in which the higher rail waits ends with it (R94). -/
theorem State.pass_waits {s t : State} (h : s.consider s.higherRail = (t, .waits)) : s.pass = t := by
  simp only [State.pass, h]

/-- Otherwise the other rail is considered, and the rails refused go on with their walks (R94, R95). -/
theorem State.pass_both {s t u : State} {v w : Verdict} (hv : s.consider s.higherRail = (t, v)) (goesOn : v ≠ .waits)
    (hw : t.consider s.higherRail.other = (u, w)) :
    s.pass = State.afterRefusals 512
      ((if v = .refused then [s.higherRail] else []) ++ (if w = .refused then [s.higherRail.other] else [])) u := by
  cases v with
  | waits => exact absurd rfl goesOn
  | refused => by_cases c : w = .refused <;> simp [State.pass, hv, hw, c]
  | noRequest | granted => by_cases c : w = .refused <;> simp [State.pass, hv, hw, c, State.afterRefusals]

/-- A pass without a waiting request changes nothing (R92). -/
theorem State.pass_noRequest {s : State} (h : ∀ r, s.arb.req r = none) : s.pass = s :=
  (State.pass_both (State.consider_noRequest (h _)) (by decide) (State.consider_noRequest (h _))).trans rfl

/-! ## The end of a group (R74, R90, R94) -/

theorem Channel.ofRail_iff (x : Channel) (r : Rail) : x.ofRail r = true ↔ x.binding.map (fun b => b.rail) = some r := by
  unfold Channel.ofRail
  cases x.binding <;> simp

/-- Another channel of the rail's group is LISTENING or SETTLING (R90). -/
theorem State.partnerBusy_iff (s : State) (c : Chan) (r : Rail) :
    s.partnerBusy c r = true ↔ ∃ d e, d ≠ c ∧ s.chans[d].binding = some e ∧ e.rail = r ∧
      (s.chans[d].phase = .listening ∨ s.chans[d].phase = .settling) := by
  have every : ∀ d : Chan, d ∈ allChans := by decide
  simp only [State.partnerBusy, List.any_eq_true, every, true_and, Bool.and_eq_true, Bool.or_eq_true, decide_eq_true_eq,
    Channel.ofRail_iff, Option.map_eq_some_iff]
  exact exists_congr fun d =>
    ⟨fun ⟨⟨hd, e, he, rail⟩, phase⟩ => ⟨e, hd, he, rail, phase⟩,
      fun ⟨e, hd, he, rail, phase⟩ => ⟨⟨hd, e, he, rail⟩, phase⟩⟩

theorem State.getElem_releaseRail (s : State) (r : Rail) (d : Chan) :
    (s.releaseRail r).chans[d] =
      if s.chans[d].binding.map (fun b => b.rail) = some r then
        { s.chans[d] with phase := .free, binding := none, fe := none }
      else s.chans[d] := by
  simp only [State.releaseRail, Fin.getElem_fin, Vector.getElem_map, Channel.ofRail_iff]
  rfl

theorem State.movePointer_eq (s : State) (r : Rail) :
    s.movePointer r =
      { s with arb := { s.arb with
          pointer := if s.bank.settings.priority = .rotating then r.other else s.arb.pointer } } := by
  unfold State.movePointer
  cases s.bank.settings.priority <;> rfl

/-- The part when the group of a rail is over: its channels are free, the pointer is moved, and the walk has yet to go
on. -/
def State.groupOver (s : State) (r : Rail) : State := ((s.releaseRail r).movePointer r).clearGroup r

theorem State.groupOver_eq (s : State) (r : Rail) :
    s.groupOver r =
      { s.setSeq r { s.seq r with group := [], windows := 0 } with
        chans := (s.releaseRail r).chans
        arb := { s.arb with
          pointer := if s.bank.settings.priority = .rotating then r.other else s.arb.pointer } } := by
  rw [State.groupOver, State.movePointer_eq]
  cases r <;> rfl

theorem sameOutside_groupOver (s : State) (r : Rail) : SameOutside s (s.groupOver r) :=
  ((sameOutside_releaseRail s r).trans (sameOutside_movePointer _ r)).trans (sameOutside_clearGroup _ r)

section groupOver
variable (s : State) (r : Rail)

@[simp] theorem State.chans_groupOver : (s.groupOver r).chans = (s.releaseRail r).chans := by
  rw [State.groupOver_eq]

@[simp] theorem State.arb_groupOver : (s.groupOver r).arb =
    { s.arb with pointer := if s.bank.settings.priority = .rotating then r.other else s.arb.pointer } := by
  rw [State.groupOver_eq]

@[simp] theorem State.hub_groupOver : (s.groupOver r).hub = s.hub := by
  rw [State.groupOver_eq]
  exact State.hub_setSeq _ _ _

@[simp] theorem State.seq_groupOver : (s.groupOver r).seq r = { s.seq r with group := [], windows := 0 } := by
  rw [State.groupOver_eq]
  cases r <;> rfl

@[simp] theorem State.seq_groupOver_other : (s.groupOver r).seq r.other = s.seq r.other := by
  rw [State.groupOver_eq]
  cases r <;> rfl

end groupOver

section settleEnd
variable {s : State} {c : Chan} {b : Binding}

theorem State.settleEnd_holds (hp : s.chans[c].phase = .settling) (hb : s.chans[c].binding = some b)
    (busy : s.partnerBusy c b.rail = true) :
    s.settleEnd c = s.setChan c { s.chans[c] with phase := .held, binding := some { b with settle := none } } := by
  simp only [State.settleEnd, hp, hb, busy, if_true]

theorem State.settleEnd_releases (hp : s.chans[c].phase = .settling) (hb : s.chans[c].binding = some b)
    (alone : ¬ s.partnerBusy c b.rail = true) :
    s.settleEnd c = ((s.groupOver b.rail).walkOn b.rail).pass.afterCycles := by
  simp only [State.settleEnd, hp, hb, if_neg alone]
  rfl

end settleEnd

/-- Where no request waits, no block is due any more and no step is pending, no commit waits and the run goes on, the
rail rests and nothing follows (R67, R75). -/
theorem State.walkOn_settles {s : State} {r : Rail} {st : Step} (requests : ∀ q, s.arb.req q = none)
    (running : s.run.state = .running) (commit : s.plan.commit ≠ .pending) (hc : (s.seq r).current = some st)
    (hw : (s.seq r).waiting = none) (hg : (s.nextGroup st (s.seq r).walk).1 = []) :
    (s.walkOn r).pass.afterCycles = s.enterWaiting r := by
  have rests : s.walkOn r = s.enterWaiting r :=
    (State.walkOn_ends hc hg).trans ((State.chainEnd_rests hw).trans (State.enterWaiting_eq hw).symm)
  have passed : (s.enterWaiting r).pass = s.enterWaiting r :=
    State.pass_noRequest (by simpa [State.enterWaiting] using requests)
  have noSwap : (s.enterWaiting r).swapDue = false := by simp [State.swapDue, State.enterWaiting, commit]
  rw [rests, passed, State.afterCycles_swap (by simp [State.enterWaiting, running]), State.swapIfDue, noSwap]
  rfl

end Sys2Proof.Machine

namespace Sys2Proof.Proofs
open Sys2Proof.Machine

/-- Settles O14: each verdict on a rail by its guards, and the pass by the verdicts on its two rails. -/
theorem passesGrantWaitOrOmit : Obligations.PassesGrantWaitOrOmit := by
  refine ⟨fun s r => State.consider_noRequest, fun s r st k => State.consider_waits,
    fun s r st k hr hc chans slots => ?_, fun b g n => groupProbes_getLsbD b g, fun s => rfl,
    fun s t => State.pass_waits, fun s t u v w => State.pass_both, fun n s => by cases n <;> rfl,
    fun n r rest s t v h => ?_⟩
  · intro probes u
    obtain ⟨sameChans, fired, other, arb⟩ := s.omission_frame r st.no (.probeSet probes)
    obtain ⟨run, x, own, last, cover⟩ := s.omission_run r st.no probes
    refine ⟨?_, sameChans, fired, other, run, x, by rw [own], last, cover⟩
    rw [State.consider_refuses hr hc chans slots, ← arb]
    unfold State.omitGroup
    rw [← State.arb_setSeq u r]
  · rw [State.afterRefusals]
    simp only [h]

/-- Settles O15: a settle end by whether the partner is busy, and what follows the group's by the walk it goes on with. -/
theorem settleEndHoldsOrReleases : Obligations.SettleEndHoldsOrReleases := by
  refine ⟨fun s c d b e low hp hb hd he rail busy => ?_, fun s c b low hp hb idle => ?_⟩
  · have run : exec (.channelSettleEnd c) s = .next (s.settleEnd c).endPool :=
      whileReleased_released low fun t => (t.settleEnd c).endPool
    rw [run, State.settleEnd_holds hp hb ((s.partnerBusy_iff c b.rail).2 ⟨d, e, hd, he, rail, busy⟩)]
  · have alone : ¬ s.partnerBusy c b.rail = true := fun busy => by
      obtain ⟨d, e, hd, he, rail, phase⟩ := (s.partnerBusy_iff c b.rail).1 busy
      obtain ⟨notListening, notSettling⟩ := idle d e hd he rail
      exact phase.elim notListening notSettling
    have run : exec (.channelSettleEnd c) s =
        .next (((s.groupOver b.rail).walkOn b.rail).pass.afterCycles).endPool := by
      rw [← State.settleEnd_releases hp hb alone]
      exact whileReleased_released low fun t => (t.settleEnd c).endPool
    refine ⟨⟨(s.releaseRail b.rail).chans, s.groupOver b.rail, s.getElem_releaseRail b.rail,
      s.groupOver_eq b.rail, run⟩, fun st reqA reqB running commit hc hw hg => ?_⟩
    let freed := s.groupOver b.rail
    have outside : SameOutside s freed := sameOutside_groupOver s b.rail
    have requests : ∀ q, freed.arb.req q = none := fun q => by
      rw [State.arb_groupOver]
      cases q
      exacts [reqA, reqB]
    have ended : (freed.nextGroup st (freed.seq b.rail).walk).1 = [] := by
      rw [State.nextGroup, outside.bank, outside.run, State.seq_groupOver]
      exact hg
    have settled : (freed.walkOn b.rail).pass.afterCycles = freed.enterWaiting b.rail :=
      State.walkOn_settles requests (outside.run ▸ running) (outside.plan ▸ commit)
        (by rw [State.seq_groupOver]; exact hc) (by rw [State.seq_groupOver]; exact hw) ended
    have kept : SameOutside s (freed.enterWaiting b.rail) := outside.trans (.setSeq freed b.rail _)
    refine ⟨freed.enterWaiting b.rail, by rw [run, settled], ?_, ?_, fun d => ?_, ?_, kept.plan, kept.odo, kept.gen,
      kept.coup, ?_, kept.run⟩
    · simp [State.enterWaiting, freed]
    · simp [State.enterWaiting, freed]
    · rw [State.enterWaiting, State.chans_setSeq, State.chans_groupOver]
      exact s.getElem_releaseRail b.rail d
    · simp [State.enterWaiting, freed]
    · simp [State.enterWaiting, freed]

end Sys2Proof.Proofs
end

section
/-! SUPPORT. HOLD PROBE: what holds of a held probe through the work of the rails, the end of a run and the swap, and the
re-forming of a group that waits. Settled here: O50. -/

namespace Sys2Proof.Machine

/-! ## A held probe in no group that waits (R68, R70) -/

theorem portIn_portAdd (p : Port) (x : PortSet) : portIn p (portAdd p x) = true := by
  revert p x
  decide

theorem portSet_ne_empty {p : Port} {x : PortSet} (h : portIn p x = true) : x ≠ 0 := by
  revert p x
  decide

/-- A sequencer that is not REQUESTING a group with a block of the probe. -/
def Sequencer.PassesOver (x : Sequencer) (b : Bank) (i : ProbeNo) : Prop :=
  x.state = .requesting → ∀ j ∈ x.group, (b.block j).probe ≠ i

/-- The port `p` holds the probe `i`, and the rail `r` is not REQUESTING a group that names it. -/
structure State.HeldOut (s : State) (p : Port) (i : ProbeNo) (r : Rail) : Prop where
  held : portIn p s.run.holds[i] = true
  free : (s.seq r).PassesOver s.bank i

section heldOut
variable {s t : State} {p : Port} {i : ProbeNo} {q r : Rail}

/-- Only the holds, the bank and the rail's state and group matter. -/
theorem State.HeldOut.same (h : s.HeldOut p i r) (holds : t.run.holds = s.run.holds) (bank : t.bank = s.bank)
    (state : (t.seq r).state = (s.seq r).state) (group : (t.seq r).group = (s.seq r).group) : t.HeldOut p i r := by
  obtain ⟨held, free⟩ := h
  refine ⟨by rw [holds]; exact held, ?_⟩
  unfold Sequencer.PassesOver
  rw [bank, state, group]
  exact free

/-- Work on a rail keeps the probe out of every rail's group if it keeps it out of its own. -/
theorem State.HeldOut.work (h : s.HeldOut p i r) (w : s.WorksOn q t)
    (own : s.HeldOut p i q → (t.seq q).PassesOver s.bank i) : t.HeldOut p i r := by
  refine ⟨by rw [w.outside.run]; exact h.held, ?_⟩
  rw [w.outside.bank]
  by_cases e : r = q
  · subst e
    exact own h
  · obtain rfl := Rail.eq_other_of_ne e
    rw [w.other]
    exact h.free

theorem State.HeldOut.withHub (h : s.HeldOut p i r) (k : Hub) : (s.withHub k).HeldOut p i r :=
  h.same rfl rfl (by simp) (by simp)

/-! ## Walks and steps (R65 to R67) -/

/-- The blocks of a group that a walk finds are due. -/
theorem findGroup_due (b : Bank) (holds : Vector PortSet 24) (n : StepNo) (fuel : Nat) (walk : Link) :
    ∀ j ∈ (findGroup b holds n fuel walk).1, isDue b holds n j = true := by
  induction fuel generalizing walk with
  | zero => cases walk <;> simp [findGroup]
  | succ fuel ih =>
    cases walk with
    | none => simp [findGroup]
    | some k =>
      unfold findGroup
      split
      · exact ih _
      · next found =>
        dsimp only
        rw [← found]
        exact fun j hj => (List.mem_filter.1 hj).2

/-- A group that a walk finds names no held probe (R68). -/
theorem State.nextGroup_passesOver (held : portIn p s.run.holds[i] = true) (st : Step) (walk : Link) :
    ∀ j ∈ (s.nextGroup st walk).1, (s.bank.block j).probe ≠ i := by
  rintro j hj rfl
  exact portSet_ne_empty held ((isDue_iff _ _ _ _).1 (findGroup_due _ _ _ _ _ j hj)).2

theorem State.passesOver_asking (held : portIn p s.run.holds[i] = true) (st : Step) (w : Option Step) (next : Step)
    (walk : Link) : ((s.asking q st w (s.nextGroup next walk)).seq q).PassesOver s.bank i := by
  intro _
  have group : ((s.asking q st w (s.nextGroup next walk)).seq q).group = (s.nextGroup next walk).1 := by
    cases q <;> rfl
  rw [group]
  exact State.nextGroup_passesOver held next walk

theorem State.passesOver_resting (s : State) (b : Bank) (i : ProbeNo) (q : Rail) :
    ((s.resting q).seq q).PassesOver b i := by
  intro requesting
  simp [State.resting] at requesting

theorem State.HeldOut.walkOn (h : s.HeldOut p i r) (q : Rail) : (s.walkOn q).HeldOut p i r := by
  refine h.work (s.worksOn_walkOn q) fun own => ?_
  cases hc : (s.seq q).current with
  | none => rw [State.walkOn_idle hc]; exact own.free
  | some st =>
    by_cases hg : (s.nextGroup st (s.seq q).walk).1 = []
    · rw [State.walkOn_ends hc hg]
      cases hw : (s.seq q).waiting with
      | none => rw [State.chainEnd_rests hw]; exact s.passesOver_resting _ i q
      | some next =>
        obtain ⟨asks, rests⟩ := State.chainEnd_next hw
        by_cases hn : (s.nextGroup next (s.bank.head q)).1 = []
        · rw [rests hn]; exact s.passesOver_resting _ i q
        · rw [asks hn]; exact State.passesOver_asking own.held _ _ _ _
    · rw [State.walkOn_asks hc hg]
      exact State.passesOver_asking own.held _ _ _ _

theorem State.HeldOut.setSeq (h : s.HeldOut p i r) {x : Sequencer} (state : x.state = (s.seq q).state)
    (group : x.group = (s.seq q).group) : (s.setSeq q x).HeldOut p i r := by
  refine h.same (by simp) (by simp) ?_ ?_
  all_goals
    rw [State.seq_setSeq_of]
    split
    · next e => subst e; assumption
    · rfl

theorem State.HeldOut.omission (h : s.HeldOut p i r) (q : Rail) (k : StepNo) (c : Coverage) :
    (s.omission q k c).HeldOut p i r := by
  have closed : (s.closeSkip q).HeldOut p i r := by
    rw [State.closeSkip_eq]
    exact (h.setSeq (x := { s.seq q with skip := none }) rfl rfl).withHub _
  unfold State.omission
  split
  · exact h.setSeq rfl rfl
  · exact closed.setSeq rfl rfl

theorem State.HeldOut.stepArrives (h : s.HeldOut p i r) (q : Rail) (st : Step) :
    (s.stepArrives q st).HeldOut p i r := by
  unfold State.stepArrives
  split
  · exact h
  · let begun := { s.seq q with current := some st, walk := s.bank.head q }
    exact (h.setSeq (x := begun) rfl rfl).walkOn q
  · split
    · exact h.setSeq rfl rfl
    · exact h.omission q _ _
  · split
    · exact h.setSeq rfl rfl
    · exact h.omission q _ _

/-! ## Passes (R92 to R95) -/

theorem State.HeldOut.consider (h : s.HeldOut p i r) (q : Rail) : (s.consider q).1.HeldOut p i r := by
  unfold State.consider
  split
  · next st _ hc =>
    split
    · split
      · refine h.work (State.worksOn_grant hc st) fun _ requesting => ?_
        rw [State.seq_grant] at requesting
        cases requesting
      · refine h.work (s.worksOn_omitGroup q st) fun _ _ j hj => ?_
        have empty : ((s.omitGroup q st).seq q).group = [] := by cases q <;> rfl
        rw [empty] at hj
        cases hj
    · exact h
  · exact h

/-- A pass keeps what its walks and its verdicts on the rails keep. -/
theorem State.pass_keeps {P : State → Prop} (walk : ∀ u q, P u → P (u.walkOn q))
    (verdict : ∀ u q, P u → P (u.consider q).1) (h : P s) : P s.pass := by
  have chain : ∀ fuel l u, P u → P (State.afterRefusals fuel l u) := by
    intro fuel
    induction fuel with
    | zero => exact fun _ _ hu => hu
    | succ fuel ih =>
      rintro (_ | ⟨q, l⟩) u hu
      · exact hu
      · exact ih _ _ (verdict _ q (walk u q hu))
  have first := verdict s s.higherRail h
  by_cases waits : (s.consider s.higherRail).2 = .waits
  · rw [State.pass_waits (Prod.ext rfl waits)]
    exact first
  · rw [State.pass_both rfl waits rfl]
    exact chain _ _ _ (verdict _ _ first)

theorem State.HeldOut.pass (h : s.HeldOut p i r) : s.pass.HeldOut p i r :=
  State.pass_keeps (P := fun u => u.HeldOut p i r) (fun _ q hu => hu.walkOn q) (fun _ q hu => hu.consider q) h

/-! ## Steps issued, the swap and the end of a run (R37, R58, R60, R156) -/

theorem State.HeldOut.issue (h : s.HeldOut p i r) : s.issue.HeldOut p i r := by
  let st : Step := { no := s.gen.stepNo + 1, pos := s.odo.position }
  let t : State := { s with gen := { s.gen with stepNo := st.no } }
  have numbered : t.HeldOut p i r := h.same rfl rfl (by cases r <;> rfl) (by cases r <;> rfl)
  have arrived := (numbered.stepArrives .a st).stepArrives .b st
  generalize u_eq : (t.stepArrives .a st).stepArrives .b st = u at arrived
  have halted : u.haltAtLimit.HeldOut p i r := by
    obtain ⟨seq, -⟩ := u.haltAtLimit_rails r
    refine arrived.same ?_ (congrArg PlanStore.activeBank u.plan_haltAtLimit) (by rw [seq]) (by rw [seq])
    unfold State.haltAtLimit
    split <;> rfl
  rw [State.issue_eq]
  dsimp only
  rw [u_eq]
  split
  · exact halted.pass
  · exact halted

theorem State.HeldOut.complete (h : s.HeldOut p i r) : s.complete.HeldOut p i r := by
  rw [State.complete_eq]
  exact ⟨h.held, fun requesting => by cases r <;> cases requesting⟩

theorem State.HeldOut.completeIfDue (h : s.HeldOut p i r) : s.completeIfDue.HeldOut p i r := by
  unfold State.completeIfDue
  split
  · exact h.complete
  · exact h

theorem State.HeldOut.issueReached (h : s.HeldOut p i r) (n : Nat) : (State.issueReached n s).HeldOut p i r := by
  induction n generalizing s with
  | zero => exact h
  | succ n ih =>
    unfold State.issueReached
    split
    · have advanced : s.advanceBoundary.HeldOut p i r := h.same rfl rfl (by cases r <;> rfl) (by cases r <;> rfl)
      exact ih advanced.issue.completeIfDue
    · exact h

/-- A swap comes while the rail does not wait for channels, and the cycles it begins are of the new bank (R37, R60). -/
theorem State.HeldOut.swap (h : s.HeldOut p i r) (due : s.swapDue = true) : s.swap.HeldOut p i r := by
  unfold State.swap
  split
  · next sig port _ _ =>
    refine State.HeldOut.issueReached ⟨?_, fun requesting => ?_⟩ _
    · rw [State.swapBanks_eq]
      exact h.held
    · have still : ((s.swapBanks sig port).seq r).state = (s.seq r).state := by
        rw [State.swapBanks_eq]
        cases r <;> rfl
      rw [still] at requesting
      obtain ⟨-, rest⟩ := s.swapDue_iff.1 due
      rcases rest r with off | ⟨waits, -⟩
      · rw [off] at requesting; cases requesting
      · rw [waits] at requesting; cases requesting
  · exact h

theorem State.HeldOut.swapIfDue (h : s.HeldOut p i r) : s.swapIfDue.HeldOut p i r := by
  unfold State.swapIfDue
  split
  · next due => exact h.swap due
  · exact h

theorem State.HeldOut.afterCycles (h : s.HeldOut p i r) : s.afterCycles.HeldOut p i r := by
  unfold State.afterCycles
  split
  · next due =>
    let t := { s with freeCount := s.freeCount + 1 }
    have counted : t.HeldOut p i r := h.same rfl rfl (by cases r <;> rfl) (by cases r <;> rfl)
    dsimp only
    split
    · exact (counted.swap (Bool.and_eq_true_iff.1 due).2).completeIfDue
    · exact counted.complete.swapIfDue
  · exact h.completeIfDue.swapIfDue

end heldOut

/-! ## The re-formed group (R70, R96) -/

/-- The blocks that remain of the group of a held probe's rail. -/
def State.remaining (s : State) (i : ProbeNo) : List BlockIx :=
  (s.seq (railOf i)).group.filter (fun b => (s.bank.block b).probe ≠ i)

/-- The held probe's rail with the blocks that remain, and its request for their channels or withdrawn. -/
def State.reduced (s : State) (i : ProbeNo) : State :=
  let g := s.remaining i
  { s.setSeq (railOf i) { s.seq (railOf i) with group := g } with
    arb := s.arb.setReq (railOf i) (if g = [] then none else some g.length) }

/-- A REQUESTING group that names the probe is re-formed (R70, R96). -/
theorem State.reform_named {s : State} {i : ProbeNo} (requesting : (s.seq (railOf i)).state = .requesting)
    (named : ∃ b ∈ (s.seq (railOf i)).group, (s.bank.block b).probe = i) :
    s.reform i = State.afterCycles (State.pass
      (if s.remaining i = [] then (s.reduced i).walkOn (railOf i) else s.reduced i)) := by
  have fewer : (s.remaining i).length < (s.seq (railOf i)).group.length := by
    simpa [State.remaining, List.length_filter_lt_length_iff_exists] using named
  have acts : (s.seq (railOf i)).state = .requesting ∧ (s.remaining i).length < (s.seq (railOf i)).group.length :=
    ⟨requesting, fewer⟩
  unfold State.reform
  dsimp only
  rw [← State.remaining, if_pos acts]
  unfold State.reduced
  cases s.remaining i with
  | nil => simp
  | cons j rest => simp

/-- A rail that does not ask for channels for the probe is left as it is. -/
theorem State.reform_unnamed {s : State} {i : ProbeNo} (free : (s.seq (railOf i)).PassesOver s.bank i) :
    s.reform i = s := by
  unfold State.reform
  refine if_neg fun ⟨requesting, fewer⟩ => ?_
  have all : (s.seq (railOf i)).group.filter (fun b => decide ((s.bank.block b).probe ≠ i)) =
      (s.seq (railOf i)).group := List.filter_eq_self.2 fun b hb => decide_eq_true (free requesting b hb)
  rw [all] at fewer
  exact absurd fewer (Nat.lt_irrefl _)

/-- A sequencer is REQUESTING a group that names the probe, or passes over it. -/
theorem Sequencer.named_or_passesOver (x : Sequencer) (b : Bank) (i : ProbeNo) :
    (x.state = .requesting ∧ ∃ j ∈ x.group, (b.block j).probe = i) ∨ x.PassesOver b i := by
  by_cases h : x.state = .requesting ∧ ∃ j ∈ x.group, (b.block j).probe = i
  · exact .inl h
  · exact .inr fun requesting j hj named => h ⟨requesting, j, hj, named⟩

/-- After the re-forming no REQUESTING group of the probe's rail names it. -/
theorem State.heldOut_reform {s : State} {p : Port} {i : ProbeNo} (held : portIn p s.run.holds[i] = true) :
    (s.reform i).HeldOut p i (railOf i) := by
  obtain ⟨requesting, named⟩ | free := (s.seq (railOf i)).named_or_passesOver s.bank i
  · have outside : SameOutside s (s.reduced i) := (SameOutside.setSeq s _ _).trans (SameOutside.setArb _ _)
    have group : ((s.reduced i).seq (railOf i)).group = s.remaining i := by
      unfold State.reduced
      generalize railOf i = r
      cases r <;> rfl
    have reduced : (s.reduced i).HeldOut p i (railOf i) := by
      refine ⟨by rw [outside.run]; exact held, fun _ j hj => ?_⟩
      rw [group] at hj
      rw [outside.bank]
      exact of_decide_eq_true (List.mem_filter.1 hj).2
    rw [State.reform_named requesting named]
    split
    · exact (reduced.walkOn _).pass.afterCycles
    · exact reduced.pass.afterCycles
  · rw [State.reform_unnamed free]
    exact ⟨held, free⟩

theorem State.keepsCtl_reform (s : State) (p : Port) (i : ProbeNo) : Hub.KeepsCtl p s.hub (s.reform i).hub := by
  obtain ⟨requesting, named⟩ | free := (s.seq (railOf i)).named_or_passesOver s.bank i
  · have hub : (s.reduced i).hub = s.hub := State.hub_setSeq _ _ _
    rw [State.reform_named requesting named]
    refine Hub.KeepsCtl.trans (.same ?_) ((State.keepsCtl_pass p _).trans (State.keepsCtl_afterCycles p _))
    split <;> simp [hub]
  · rw [State.reform_unnamed free]
    exact .refl p _

/-! ## The request (R160) -/

/-- The part in which a hold of an empty hold set has been recorded: the port has taken its request, the port is in the
set, and the HOLD HELD record is handed over. -/
def State.holdNoted (s : State) (p : Port) (i : ProbeNo) : State :=
  State.handRecord
    { s with run := { s.run with holds := s.run.holds.set i (portAdd p s.run.holds[i]) },
             hub := s.hub.setCtl p (s.hub.ctl p).taken } (.hold i .held p)

@[simp] theorem State.seq_holdNoted (s : State) (p : Port) (i : ProbeNo) (r : Rail) :
    (s.holdNoted p i).seq r = s.seq r := by cases r <;> rfl

theorem State.held_holdNoted (s : State) (p : Port) (i : ProbeNo) :
    portIn p (s.holdNoted p i).run.holds[i] = true := by
  have set : (s.holdNoted p i).run.holds[i] = portAdd p s.run.holds[i] := by
    simp [State.holdNoted, State.handRecord]
  rw [set]
  exact portIn_portAdd p _

/-- A HOLD PROBE that finds the hold set empty: the record, the re-forming, and the answer DONE (R160). -/
theorem State.exec_holdProbe {s : State} {p : Port} (h : s.takesOn p) (tag : Byte) {i : ProbeNo}
    (empty : s.run.holds[i] = 0) :
    ∃ t, exec (.holdProbe p tag (BitVec.ofNat 8 i.val)) s = .next t ∧
      ((s.holdNoted p i).reform i).endPool.answeredBy p (.response tag 0x0D (.done .nothing)) t := by
  let v := s.withHub (s.hub.setCtl p (s.hub.ctl p).taken)
  have ready : (v.hub.ctl p).state ≠ .heldTake := by simp [v, PortCtl.state_taken h.2]
  have holds : v.hold p i = ((s.holdNoted p i).reform i).endPool := if_pos empty
  have served : v.holdBy p (BitVec.ofNat 8 i.val) = (((s.holdNoted p i).reform i).endPool, .done .nothing) := by
    have small : (BitVec.ofNat 8 i.val).toNat ≤ 23 := by
      have := i.isLt
      rw [BitVec.toNat_ofNat]
      omega
    have inside : firstBad [inRange 0 23 (BitVec.ofNat 8 i.val).toNat] = none := by
      rw [(inRange_eq_true _ _ _).2 ⟨Nat.zero_le _, small⟩]
      rfl
    unfold State.holdBy
    rw [inside, ← holds, probeOf_ofNat]
  have recorded : Hub.KeepsCtl p v.hub (s.holdNoted p i).hub :=
    State.keepsCtl_handRecord p (v.setHold i (portAdd p s.run.holds[i])) _
  have kept : ((s.holdNoted p i).reform i).endPool.hub.ctl p = (s.hub.ctl p).taken :=
    (((recorded.trans (State.keepsCtl_reform _ p i)).trans (State.keepsCtl_endPool p _)) ready).trans
      (Hub.ctl_setCtl_self _ _ _)
  exact State.request_kept h tag 0x0D (serve := fun x => x.holdBy p (BitVec.ofNat 8 i.val)) served kept

end Sys2Proof.Machine

namespace Sys2Proof.Proofs
open Sys2Proof.Machine

/-- Settles O50: the request as the record and the re-forming, and the held probe out of every group that waits, which
each operation after the re-forming keeps. -/
theorem heldProbesLeaveWaitingGroups : Obligations.HeldProbesLeaveWaitingGroups := by
  refine ⟨fun s p tag i h empty requesting named => ?_, fun s p tag i h empty => ?_⟩
  · intro r g u v
    have seq : u.seq r = s.seq r := s.seq_holdNoted p i r
    have remaining : u.remaining i = g := by
      unfold State.remaining
      rw [seq]
      rfl
    have reduced : u.reduced i = v := by
      unfold State.reduced
      rw [remaining, seq]
      rfl
    obtain ⟨t, run, answered⟩ := State.exec_holdProbe h tag empty
    have reformed := State.reform_named (s := u) (i := i) (seq ▸ requesting) (seq ▸ named)
    rw [remaining, reduced] at reformed
    refine ⟨t, run, ?_⟩
    rw [← reformed]
    exact answered
  · obtain ⟨t, run, rfl⟩ := State.exec_holdProbe h tag empty
    have reformed : ((s.holdNoted p i).reform i).HeldOut p i (railOf i) := State.heldOut_reform (s.held_holdNoted p i)
    have ended := reformed.withHub ((s.holdNoted p i).reform i).endPool.hub
    rw [← State.endPool_eq] at ended
    obtain ⟨held, free⟩ := ended.withHub _
    exact ⟨_, run, held, free⟩

end Sys2Proof.Proofs
end

section
/-! SUPPORT. The Gate Evaluator over the samples of a window: what holds of its gates, its crossing and its excerpt after
the samples taken so far, one sample at a time. Settled here: O17, O18, O19. -/

namespace Sys2Proof.Machine

/-! ## Samples taken one after another -/

/-- What holds of the evaluator and the samples taken so far holds after more samples, if it holds after each. -/
theorem Evaluator.run_induction {P : List Sample → Evaluator → Prop}
    (step : ∀ xs e v, P xs e → P (xs ++ [v]) (e.take xs.length v)) (ys : List Sample) {xs : List Sample}
    {e : Evaluator} (h : P xs e) : P (xs ++ ys) (e.run xs.length ys) := by
  induction ys generalizing xs e with
  | nil => simpa [Evaluator.run] using h
  | cons v ys ih => simpa [Evaluator.run] using ih (step xs e v h)

/-- The samples before a sample are taken first, then the sample, then those after it. -/
theorem Evaluator.run_append (e : Evaluator) (n : Nat) (xs ys : List Sample) :
    e.run n (xs ++ ys) = (e.run n xs).run (n + xs.length) ys := by
  induction xs generalizing e n with
  | nil => rfl
  | cons v xs ih =>
    simp only [List.cons_append, Evaluator.run, ih, List.length_cons]
    congr 1
    omega

/-- A sample of a list with one more is the one added or stood in the list. -/
theorem getElem?_concat_cases {α : Type} {xs : List α} {v w : α} {k : Nat} (h : (xs ++ [v])[k]? = some w) :
    (k = xs.length ∧ w = v) ∨ (k < xs.length ∧ xs[k]? = some w) := by
  rcases Nat.lt_trichotomy k xs.length with lt | rfl | gt
  · exact .inr ⟨lt, by rwa [List.getElem?_append_left lt] at h⟩
  · exact .inl ⟨rfl, by simpa using h.symm⟩
  · rw [List.getElem?_eq_none (by simp; omega)] at h
    cases h

theorem getElem?_concat_of_some {α : Type} {xs : List α} {w : α} {k : Nat} (h : xs[k]? = some w) (v : α) :
    (xs ++ [v])[k]? = some w := by
  obtain ⟨lt, -⟩ := List.getElem?_eq_some_iff.1 h
  rwa [List.getElem?_append_left lt]

/-- The samples before and after a sample. -/
theorem exists_split_of_getElem? {α : Type} {xs : List α} {n : Nat} {v : α} (h : xs[n]? = some v) :
    ∃ ys zs, xs = ys ++ v :: zs ∧ ys.length = n := by
  obtain ⟨lt, rfl⟩ := List.getElem?_eq_some_iff.1 h
  exact ⟨xs.take n, xs.drop (n + 1), by simp, by simp; omega⟩

/-! ## The peak of a gate (R99, R102) -/

/-- What a gate that covers the samples from `lo` up to but not including `hi` holds after the samples `xs`: no largest
sample while none is covered, and then the largest of the covered ones with the number of the first that gave it. -/
structure GateAcc.PeakOf (xs : List Sample) (lo hi : Nat) (a : GateAcc) : Prop where
  cover : a.cover = some (lo, hi)
  before : a.largest = none → xs.length ≤ lo
  peak : ∀ m, a.largest = some m → lo ≤ a.peakTime ∧ a.peakTime < hi ∧ xs[a.peakTime]? = some m ∧
    ∀ k w, lo ≤ k → k < hi → xs[k]? = some w → w ≤ m ∧ (k < a.peakTime → w < m)

/-- A sample moves the peak of a gate at most (R102). -/
theorem GateAcc.take_eq (a : GateAcc) (n : Nat) (v : Sample) :
    ∃ m t, a.take n v = { a with largest := m, peakTime := t } := by
  unfold GateAcc.take
  split
  · split
    · exact ⟨_, _, rfl⟩
    · split
      · exact ⟨_, _, rfl⟩
      · exact ⟨a.largest, a.peakTime, rfl⟩
  · exact ⟨a.largest, a.peakTime, rfl⟩

@[simp] theorem GateAcc.place_take (a : GateAcc) (n : Nat) (v : Sample) : (a.take n v).place = a.place := by
  obtain ⟨m, t, e⟩ := a.take_eq n v
  rw [e]

@[simp] theorem GateAcc.gate_take (a : GateAcc) (n : Nat) (v : Sample) : (a.take n v).gate = a.gate := by
  obtain ⟨m, t, e⟩ := a.take_eq n v
  rw [e]

@[simp] theorem GateAcc.cover_take (a : GateAcc) (n : Nat) (v : Sample) : (a.take n v).cover = a.cover := by
  obtain ⟨m, t, e⟩ := a.take_eq n v
  rw [e]

theorem GateAcc.covers_iff {a : GateAcc} {lo hi : Nat} (h : a.cover = some (lo, hi)) (n : Nat) :
    a.covers n = true ↔ lo ≤ n ∧ n < hi := by simp [GateAcc.covers, h]

/-- A sample that a gate does not cover leaves it as it is (R102). -/
theorem GateAcc.take_uncovered {a : GateAcc} {n : Nat} (h : a.covers n = false) (v : Sample) : a.take n v = a := by
  simp [GateAcc.take, h]

/-- A covered sample above the largest so far moves the peak, as does the first covered one (R102). -/
theorem GateAcc.take_rises {a : GateAcc} {n : Nat} (h : a.covers n = true) {v : Sample}
    (rises : ∀ m, a.largest = some m → m < v) : a.take n v = { a with largest := some v, peakTime := n } := by
  unfold GateAcc.take
  rw [if_pos h]
  split
  · rfl
  · next m hm => rw [if_pos (rises m hm)]

/-- A covered sample that is not above the largest so far leaves the peak where it is (R102). -/
theorem GateAcc.take_stays {a : GateAcc} {n : Nat} {v m : Sample} (h : a.largest = some m) (stays : v ≤ m) :
    a.take n v = a := by
  unfold GateAcc.take
  split
  · rw [h]
    exact if_neg (not_lt.2 stays)
  · rfl

section peakOf
variable {xs : List Sample} {lo hi : Nat} {a : GateAcc}

/-- A covered sample above those before it is the peak. -/
theorem GateAcc.PeakOf.raised (h : a.PeakOf xs lo hi) (from_lo : lo ≤ xs.length) (below_hi : xs.length < hi)
    {v : Sample} (rises : ∀ m, a.largest = some m → m < v) :
    GateAcc.PeakOf (xs ++ [v]) lo hi { a with largest := some v, peakTime := xs.length } := by
  refine ⟨h.cover, fun empty => (nomatch empty), fun m hm => ?_⟩
  obtain rfl : v = m := Option.some.inj hm
  refine ⟨from_lo, below_hi, by simp, fun k w hlo hhi hw => ?_⟩
  obtain ⟨rfl, rfl⟩ | ⟨earlier, hw⟩ := getElem?_concat_cases hw
  · exact ⟨le_refl _, fun lt => absurd lt (Nat.lt_irrefl _)⟩
  · have below : w < v := by
      cases hl : a.largest with
      | none => have := h.before hl; omega
      | some m =>
        obtain ⟨-, -, -, largest⟩ := h.peak m hl
        exact lt_of_le_of_lt (largest k w hlo hhi hw).1 (rises m hl)
    exact ⟨below.le, fun _ => below⟩

/-- A sample that is not covered or not above the largest so far leaves the peak where it is. -/
theorem GateAcc.PeakOf.unmoved (h : a.PeakOf xs lo hi) (nonempty : lo < hi) {v : Sample}
    (stays : lo ≤ xs.length → xs.length < hi → ∃ m, a.largest = some m ∧ v ≤ m) :
    a.PeakOf (xs ++ [v]) lo hi := by
  refine ⟨h.cover, fun empty => ?_, fun m hm => ?_⟩
  · have early := h.before empty
    have uncovered : ¬ (lo ≤ xs.length ∧ xs.length < hi) := fun ⟨hlo, hhi⟩ => by
      obtain ⟨m, hm, -⟩ := stays hlo hhi
      rw [empty] at hm
      cases hm
    simp only [List.length_append, List.length_singleton]
    omega
  · obtain ⟨plo, phi, at_peak, largest⟩ := h.peak m hm
    refine ⟨plo, phi, getElem?_concat_of_some at_peak v, fun k w hlo hhi hw => ?_⟩
    obtain ⟨rfl, rfl⟩ | ⟨-, hw⟩ := getElem?_concat_cases hw
    · obtain ⟨m', hm', le⟩ := stays hlo hhi
      obtain rfl : m = m' := Option.some.inj (hm.symm.trans hm')
      have := (List.getElem?_eq_some_iff.1 at_peak).1
      exact ⟨le, fun lt => by omega⟩
    · exact largest k w hlo hhi hw

/-- A gate that has taken the samples so far takes the next one. -/
theorem GateAcc.PeakOf.take (h : a.PeakOf xs lo hi) (nonempty : lo < hi) (v : Sample) :
    (a.take xs.length v).PeakOf (xs ++ [v]) lo hi := by
  have covers := GateAcc.covers_iff h.cover xs.length
  by_cases covered : a.covers xs.length = true
  · by_cases rises : ∀ m, a.largest = some m → m < v
    · rw [GateAcc.take_rises covered rises]
      exact h.raised (covers.1 covered).1 (covers.1 covered).2 rises
    · obtain ⟨m, hm, stays⟩ : ∃ m, a.largest = some m ∧ v ≤ m := by simpa using rises
      rw [GateAcc.take_stays hm stays]
      exact h.unmoved nonempty fun _ _ => ⟨m, hm, stays⟩
  · rw [GateAcc.take_uncovered (by simpa using covered)]
    exact h.unmoved nonempty fun hlo hhi => absurd (covers.2 ⟨hlo, hhi⟩) covered

end peakOf

/-- The result of a gate that has taken all the samples it covers (R103). -/
theorem GateAcc.PeakOf.result {samples : List Sample} {lo hi : Nat} {a : GateAcc} (h : a.PeakOf samples lo hi)
    (nonempty : lo < hi) (inside : hi ≤ samples.length) : gatePeakIs samples a.gate a.place lo hi a.result := by
  cases hl : a.largest with
  | none =>
    have := h.before hl
    omega
  | some m =>
    obtain ⟨plo, phi, at_peak, largest⟩ := h.peak m hl
    have result : a.result =
        { place := a.place, kind := a.gate.kind, status := if a.gate.isHit m.val then .hit else .clear,
          peak := m.val, time := a.peakTime } := by
      simp [GateAcc.result, h.cover, hl]
    rw [result]
    refine ⟨rfl, rfl, plo, phi, by simp [at_peak], fun k v hlo hhi hv => largest k v hlo hhi hv, ?_⟩
    unfold Gate.isHit
    cases a.gate.kind <;> simp

/-! ## A gate in the evaluator's list -/

/-- The evaluator's gate of a place has taken the samples `xs`, the covered ones of which are known. -/
def Evaluator.Peaks (i : Place) (g : Gate) (lo hi : Nat) (xs : List Sample) (e : Evaluator) : Prop :=
  (g.origin = .pulse ∨ e.crossing ≠ none) ∧ ∃ a ∈ e.gates, a.place = i ∧ a.gate = g ∧ a.PeakOf xs lo hi

theorem GateAcc.sync_pulse {a : GateAcc} (h : a.gate.origin = .pulse) (n : Nat) : a.sync n = a := by
  simp [GateAcc.sync, h]

/-- What the evaluator makes of a gate upon a sample (R101, R102). -/
def Evaluator.tookGate (e : Evaluator) (n : Nat) (v : Sample) (a : GateAcc) : GateAcc :=
  (if e.crossing.isNone && e.crosses n v then a.sync n else a).take n v

theorem Evaluator.gates_take (e : Evaluator) (n : Nat) (v : Sample) :
    (e.take n v).gates = e.gates.map (e.tookGate n v) := rfl

theorem Evaluator.crossing_take (e : Evaluator) (n : Nat) (v : Sample) :
    (e.take n v).crossing = if e.crossing.isNone && e.crosses n v then some n else e.crossing := rfl

/-- A gate whose covered samples are known takes the sample as it stands. -/
theorem Evaluator.tookGate_known {e : Evaluator} {a : GateAcc} (h : a.gate.origin = .pulse ∨ e.crossing ≠ none)
    (n : Nat) (v : Sample) : e.tookGate n v a = a.take n v := by
  unfold Evaluator.tookGate
  rcases h with pulse | crossed
  · rw [GateAcc.sync_pulse pulse, ite_self]
  · simp [Option.isNone_iff_eq_none, crossed]

theorem Evaluator.Peaks.take {i : Place} {g : Gate} {lo hi : Nat} (nonempty : lo < hi) (xs : List Sample)
    (e : Evaluator) (v : Sample) (h : e.Peaks i g lo hi xs) : (e.take xs.length v).Peaks i g lo hi (xs ++ [v]) := by
  obtain ⟨known, a, mem, place, gate, peak⟩ := h
  have took := Evaluator.tookGate_known (a := a) (gate ▸ known) xs.length v
  refine ⟨known.imp id fun crossed => ?_, a.take xs.length v, ?_, by simpa using place, by simpa using gate,
    peak.take nonempty v⟩
  · rw [Evaluator.crossing_take]
    split
    · simp
    · exact crossed
  · rw [Evaluator.gates_take, ← took]
    exact List.mem_map_of_mem mem

/-- A gate with the covered samples known reports the peak of those, once all are taken. -/
theorem Evaluator.Peaks.results {i : Place} {g : Gate} {lo hi : Nat} {samples : List Sample} {e : Evaluator}
    (h : e.Peaks i g lo hi samples) (nonempty : lo < hi) (inside : hi ≤ samples.length) :
    ∃ res ∈ e.results, gatePeakIs samples g i lo hi res := by
  obtain ⟨-, a, mem, rfl, rfl, peak⟩ := h
  exact ⟨a.result, List.mem_map_of_mem mem, peak.result nonempty inside⟩

theorem mem_gateListOf {e : ProbeEntry} {i : Place} {g : Gate} (h : e.gates[i] = some g) :
    GateAcc.start i g ∈ gateListOf e :=
  List.mem_filterMap.2 ⟨i, by fin_cases i <;> simp, by rw [h]; rfl⟩

/-! ## The crossing (R100, R101) -/

/-- Whether an accumulator is that of a COUPLING gate. -/
def GateAcc.isCoupling (a : GateAcc) : Bool := decide (a.gate.kind = .coupling)

/-- The coupling gate that the search of a probe entry finds is the first COUPLING gate of its gate list (R8, R100). -/
theorem find?_gateListOf {e : ProbeEntry} {j : Place} {c : Gate} (h : couplingGateOf e = some (j, c)) :
    (gateListOf e).find? GateAcc.isCoupling = some (GateAcc.start j c) := by
  unfold couplingGateOf at h
  unfold gateListOf
  generalize ([0, 1, 2, 3] : List Place) = l at h ⊢
  induction l with
  | nil => cases h
  | cons i l ih =>
    rw [List.findSome?_cons] at h
    rw [List.filterMap_cons]
    cases gate : e.gates[i] with
    | none =>
      rw [gate] at h
      exact ih h
    | some g =>
      rw [gate] at h
      dsimp only [Option.map_some] at h ⊢
      rw [List.find?_cons]
      by_cases kind : g.kind = .coupling
      · rw [if_pos kind] at h
        cases h
        simp [GateAcc.isCoupling, GateAcc.start, kind]
      · rw [if_neg kind] at h
        have other : (GateAcc.start i g).isCoupling = false := by simp [GateAcc.isCoupling, GateAcc.start, kind]
        rw [other]
        exact ih h

/-- The evaluator has met no crossing: its coupling gate `c` covers the samples of a PULSE gate, and its gate in place
`i`, an INTERFACE one, is as it was at the grant (R98, R101). -/
structure Evaluator.Waits (c : Gate) (i : Place) (g : Gate) (e : Evaluator) : Prop where
  crossing : e.crossing = none
  coupling : ∃ a, e.gates.find? GateAcc.isCoupling = some a ∧ a.gate = c ∧
    a.cover = some (5 * c.start, 5 * (c.start + c.width))
  gate : GateAcc.start i g ∈ e.gates

theorem Evaluator.waits_start {e : ProbeEntry} {i j : Place} {g c : Gate} (hc : couplingGateOf e = some (j, c))
    (pulse : c.origin = .pulse) (hg : e.gates[i] = some g) (excerpt : Option Nat) (total : Nat) :
    (Evaluator.start e excerpt total).Waits c i g :=
  ⟨rfl, ⟨_, find?_gateListOf hc, rfl, by simp [GateAcc.start, pulse]⟩, mem_gateListOf hg⟩

/-- A sample is the crossing when the coupling gate covers it and it reaches the threshold (R100). -/
theorem Evaluator.Waits.crosses_iff {c : Gate} {i : Place} {g : Gate} {e : Evaluator} (h : e.Waits c i g) (n : Nat)
    (v : Sample) : e.crosses n v = true ↔
      (5 * c.start ≤ n ∧ n < 5 * (c.start + c.width)) ∧ c.threshold ≤ v.val := by
  obtain ⟨a, found, rfl, cover⟩ := h.coupling
  have search : e.gates.find? (fun g => decide (g.gate.kind = .coupling)) = some a := found
  simp [Evaluator.crosses, search, GateAcc.covers_iff cover]

/-- A sample that is not the crossing leaves an evaluator without one as it was in this respect. -/
theorem Evaluator.Waits.take {c : Gate} {i : Place} {g : Gate} {e : Evaluator} (h : e.Waits c i g)
    (origin : g.origin = .interface) {n : Nat} {v : Sample} (no : e.crosses n v = false) :
    (e.take n v).Waits c i g := by
  have took : ∀ a, e.tookGate n v a = a.take n v := fun a => by simp [Evaluator.tookGate, no]
  have kind : GateAcc.isCoupling ∘ e.tookGate n v = GateAcc.isCoupling := by
    funext a
    simp [GateAcc.isCoupling, took]
  obtain ⟨a, found, gate, cover⟩ := h.coupling
  refine ⟨by simp [Evaluator.crossing_take, no, h.crossing],
    ⟨a.take n v, ?_, by simpa using gate, by simpa using cover⟩, ?_⟩
  · rw [Evaluator.gates_take, List.find?_map, kind, found, Option.map_some, took]
  · have unknown : (GateAcc.start i g).covers n = false := by simp [GateAcc.covers, GateAcc.start, origin]
    have stays := took (GateAcc.start i g)
    rw [GateAcc.take_uncovered unknown] at stays
    rw [Evaluator.gates_take]
    exact List.mem_map.2 ⟨_, h.gate, stays⟩

/-- Whether no sample of a list that a coupling gate covers reaches its threshold. -/
def noCrossing (c : Gate) (xs : List Sample) : Prop :=
  ∀ k w, 5 * c.start ≤ k → k < 5 * (c.start + c.width) → xs[k]? = some w → w.val < c.threshold

/-- Without a crossing among the samples the evaluator has met none (R100). -/
theorem Evaluator.Waits.run {c : Gate} {i : Place} {g : Gate} {e : Evaluator} (h : e.Waits c i g)
    (origin : g.origin = .interface) {xs : List Sample} (no : noCrossing c xs) : (e.run 0 xs).Waits c i g := by
  refine Evaluator.run_induction (P := fun ys u => noCrossing c ys → u.Waits c i g) (fun ys u v ih no => ?_) xs
    (xs := []) (fun _ => h) no
  have waits := ih fun k w hlo hhi hw => no k w hlo hhi (getElem?_concat_of_some hw v)
  refine waits.take origin (Bool.eq_false_iff.2 fun crosses => ?_)
  obtain ⟨⟨hlo, hhi⟩, reaches⟩ := (waits.crosses_iff _ v).1 crosses
  have below := no ys.length v hlo hhi (by simp)
  omega

/-- The crossing sample places the gate, which then has taken the samples up to and with it (R101). -/
theorem Evaluator.Waits.cross {c : Gate} {i : Place} {g : Gate} {e : Evaluator} (h : e.Waits c i g)
    (origin : g.origin = .interface) (width : 1 ≤ g.width) {xs : List Sample} {v : Sample}
    (crosses : e.crosses xs.length v = true) :
    (e.take xs.length v).crossing = some xs.length ∧
      (e.take xs.length v).Peaks i g (xs.length + 5 * g.start) (xs.length + 5 * (g.start + g.width)) (xs ++ [v]) := by
  have crossing : (e.take xs.length v).crossing = some xs.length := by
    simp [Evaluator.crossing_take, crosses, h.crossing]
  have synced : ((GateAcc.start i g).sync xs.length).PeakOf xs (xs.length + 5 * g.start)
      (xs.length + 5 * (g.start + g.width)) := by
    simp only [GateAcc.sync, GateAcc.start, origin]
    exact ⟨rfl, fun _ => Nat.le_add_right _ _, fun m hm => nomatch hm⟩
  have took : e.tookGate xs.length v (GateAcc.start i g) =
      ((GateAcc.start i g).sync xs.length).take xs.length v := by
    simp [Evaluator.tookGate, h.crossing, crosses]
  refine ⟨crossing, .inr (by simp [crossing]), ((GateAcc.start i g).sync xs.length).take xs.length v, ?_, ?_, ?_,
    synced.take (by omega) v⟩
  · rw [Evaluator.gates_take, ← took]
    exact List.mem_map_of_mem h.gate
  · simp [GateAcc.sync, GateAcc.start, origin]
  · simp [GateAcc.sync, GateAcc.start, origin]

/-- Once met, the crossing stays (R100). -/
theorem Evaluator.crossing_run {e : Evaluator} {n : Nat} (h : e.crossing = some n) (m : Nat) (xs : List Sample) :
    (e.run m xs).crossing = some n := by
  induction xs generalizing e m with
  | nil => exact h
  | cons v xs ih => exact ih (by simp [Evaluator.crossing_take, h]) (m + 1)

/-! ## The excerpt (R107) -/

/-- `v` is the largest of the samples `xs` from `lo` up to but not including `hi`. -/
def IsLargest (xs : List Sample) (lo hi : Nat) (v : Sample) : Prop :=
  (∃ k : Nat, lo ≤ k ∧ k < hi ∧ xs[k]? = some v) ∧
    ∀ (k : Nat) (w : Sample), lo ≤ k → k < hi → xs[k]? = some w → w ≤ v

theorem IsLargest.concat {xs : List Sample} {lo hi : Nat} {v : Sample} (h : IsLargest xs lo hi v)
    (within : hi ≤ xs.length) (w : Sample) : IsLargest (xs ++ [w]) lo hi v := by
  obtain ⟨⟨k, hlo, hhi, hk⟩, largest⟩ := h
  refine ⟨⟨k, hlo, hhi, getElem?_concat_of_some hk w⟩, fun k u hlo hhi hu => ?_⟩
  obtain ⟨rfl, -⟩ | ⟨-, hu⟩ := getElem?_concat_cases hu
  · omega
  · exact largest k u hlo hhi hu

/-- `v` is the largest of the samples of a list from `lo` on, 0 when there is none yet. -/
def IsLargestFrom (xs : List Sample) (lo : Nat) (v : Sample) : Prop :=
  if lo < xs.length then IsLargest xs lo xs.length v else v = 0

/-- The samples from `lo` on with one more. -/
theorem IsLargestFrom.concat {xs : List Sample} {lo : Nat} {v : Sample} (h : IsLargestFrom xs lo v)
    (begun : lo ≤ xs.length) (w : Sample) : IsLargest (xs ++ [w]) lo (xs.length + 1) (max v w) := by
  unfold IsLargestFrom at h
  split at h
  · obtain ⟨⟨k, hlo, hhi, hk⟩, largest⟩ := h
    constructor
    · rcases le_total v w with le | le
      · exact ⟨xs.length, begun, Nat.lt_succ_self _, by simp [max_eq_right le]⟩
      · exact ⟨k, hlo, by omega, by rw [max_eq_left le]; exact getElem?_concat_of_some hk w⟩
    · intro k u hlo _ hu
      obtain ⟨-, rfl⟩ | ⟨lt, hu⟩ := getElem?_concat_cases hu
      · exact le_max_right _ _
      · exact (largest k u hlo lt hu).trans (le_max_left _ _)
  · subst h
    refine ⟨⟨xs.length, begun, Nat.lt_succ_self _, by simp⟩, fun k u hlo _ hu => ?_⟩
    obtain ⟨-, rfl⟩ | ⟨lt, -⟩ := getElem?_concat_cases hu
    · exact le_max_right _ _
    · omega

/-- The first sample of an excerpt's group of window samples (R107). -/
def groupStart (total len j : Nat) : Nat := j * total / len

theorem groupStart_lt {total len : Nat} (positive : 1 ≤ len) (fits : len ≤ total) (j : Nat) :
    groupStart total len j < groupStart total len (j + 1) := by
  unfold groupStart
  rw [Nat.lt_iff_add_one_le, ← Nat.add_div_right _ positive, Nat.add_mul, Nat.one_mul]
  exact Nat.div_le_div_right (Nat.add_le_add_left fits _)

theorem groupStart_len {total len : Nat} (positive : 1 ≤ len) : groupStart total len len = total :=
  Nat.mul_div_cancel_left total positive

/-- What an excerpt holds after the samples `xs`: the largest sample of each group that is complete, and that of the
group being gathered, which is not complete yet (R107). -/
structure ExcerptAcc.Gathers (len total : Nat) (xs : List Sample) (x : ExcerptAcc) : Prop where
  len_eq : x.len = len
  total_eq : x.total = total
  begun : groupStart total len x.samples.length ≤ xs.length
  unfinished : xs.length < groupStart total len (x.samples.length + 1)
  groups : ∀ j v, x.samples[j]? = some v → IsLargest xs (groupStart total len j) (groupStart total len (j + 1)) v
  largest : IsLargestFrom xs (groupStart total len x.samples.length) x.largest

theorem ExcerptAcc.Gathers.start {len total : Nat} (positive : 1 ≤ len) (fits : len ≤ total) :
    ExcerptAcc.Gathers len total [] { len := len, total := total, largest := 0, samples := [] } :=
  ⟨rfl, rfl, by simp [groupStart], Nat.lt_of_le_of_lt (Nat.zero_le _) (groupStart_lt positive fits 0),
    fun j v h => by simp at h, by simp [IsLargestFrom]⟩

theorem ExcerptAcc.take_eq (x : ExcerptAcc) (n : Nat) (v : Sample) :
    x.take n v =
      if n + 1 = groupStart x.total x.len (x.samples.length + 1) then
        { x with samples := x.samples ++ [max x.largest v], largest := 0 }
      else { x with largest := max x.largest v } := rfl

/-- The excerpt takes the next sample. -/
theorem ExcerptAcc.Gathers.take {len total : Nat} (positive : 1 ≤ len) (fits : len ≤ total) {xs : List Sample}
    {x : ExcerptAcc} (h : x.Gathers len total xs) (v : Sample) :
    (x.take xs.length v).Gathers len total (xs ++ [v]) := by
  obtain ⟨rfl, rfl, begun, still, groups, largest⟩ := h
  have next := largest.concat begun v
  have rising := groupStart_lt positive fits
  have complete : ∀ j w, x.samples[j]? = some w →
      IsLargest (xs ++ [v]) (groupStart x.total x.len j) (groupStart x.total x.len (j + 1)) w := fun j w hw => by
    obtain ⟨lt, -⟩ := List.getElem?_eq_some_iff.1 hw
    exact (groups j w hw).concat (((strictMono_nat_of_lt_succ rising).monotone lt).trans begun) v
  rw [ExcerptAcc.take_eq]
  by_cases ends : xs.length + 1 = groupStart x.total x.len (x.samples.length + 1)
  · rw [if_pos ends]
    refine ⟨rfl, rfl, ?_, ?_, fun j w hw => ?_, ?_⟩
    · simp [ends]
    · simpa [ends] using rising _
    · obtain ⟨rfl, rfl⟩ | ⟨-, hw⟩ := getElem?_concat_cases hw
      · rw [← ends]
        exact next
      · exact complete j w hw
    · simp [IsLargestFrom, ends]
  · rw [if_neg ends]
    refine ⟨rfl, rfl, ?_, ?_, complete, ?_⟩
    · simp only [List.length_append, List.length_singleton]
      omega
    · simp only [List.length_append, List.length_singleton]
      omega
    · unfold IsLargestFrom
      rw [if_pos (by simp only [List.length_append, List.length_singleton]; omega)]
      simpa using next

/-- After all the samples of the window every group is complete (R107). -/
theorem ExcerptAcc.Gathers.length_samples {len total : Nat} (positive : 1 ≤ len) (fits : len ≤ total)
    {xs : List Sample} {x : ExcerptAcc} (h : x.Gathers len total xs) (all : xs.length = total) :
    x.samples.length = len := by
  have rising := strictMono_nat_of_lt_succ (groupStart_lt positive fits)
  have begun : groupStart total len x.samples.length ≤ groupStart total len len := by
    rw [groupStart_len positive]
    exact h.begun.trans all.le
  have still : groupStart total len len < groupStart total len (x.samples.length + 1) := by
    rw [groupStart_len positive]
    exact all.ge.trans_lt h.unfinished
  exact le_antisymm (rising.le_iff_le.1 begun) (Nat.lt_succ_iff.1 (rising.lt_iff_lt.1 still))

/-- The evaluator's excerpt has taken the samples `xs`. -/
def Evaluator.Gathers (len total : Nat) (xs : List Sample) (e : Evaluator) : Prop :=
  ∃ x, e.excerpt = some x ∧ x.Gathers len total xs

theorem Evaluator.Gathers.take {len total : Nat} (positive : 1 ≤ len) (fits : len ≤ total) (xs : List Sample)
    (e : Evaluator) (v : Sample) (h : e.Gathers len total xs) : (e.take xs.length v).Gathers len total (xs ++ [v]) := by
  obtain ⟨x, excerpt, gathers⟩ := h
  exact ⟨x.take xs.length v, by simp [Evaluator.take, excerpt], gathers.take positive fits v⟩

end Sys2Proof.Machine

namespace Sys2Proof.Proofs
open Sys2Proof.Machine

/-- Settles O17: the covered samples of a PULSE gate are known from the grant on. -/
theorem pulseGatesReportTheirPeak : Obligations.PulseGatesReportTheirPeak := by
  intro e i g samples excerpt total hg pulse width inside
  have nonempty : 5 * g.start < 5 * (g.start + g.width) := by omega
  have start : (Evaluator.start e excerpt total).Peaks i g (5 * g.start) (5 * (g.start + g.width)) [] := by
    exact ⟨.inl pulse, _, mem_gateListOf hg, rfl, rfl, by simp [GateAcc.start, pulse], fun _ => Nat.zero_le _,
      fun m hm => nomatch hm⟩
  exact (Evaluator.run_induction (Evaluator.Peaks.take nonempty) samples start).results nonempty inside

/-- Settles O18: the samples before the crossing place no gate, the crossing places it, and from then on it takes its
samples as a PULSE gate does. -/
theorem interfaceGatesFollowTheCrossing : Obligations.InterfaceGatesFollowTheCrossing := by
  intro e i j g c samples excerpt total hc pulse hg origin width
  have start := Evaluator.waits_start hc pulse hg excerpt total
  refine ⟨fun n v hlo hhi hv reaches first inside => ?_, fun no => ?_⟩
  · obtain ⟨xs, ys, rfl, rfl⟩ := exists_split_of_getElem? hv
    have before : noCrossing c xs := fun k w klo _ hw => by
      obtain ⟨lt, -⟩ := List.getElem?_eq_some_iff.1 hw
      exact first k w klo lt (by rw [List.getElem?_append_left lt, hw])
    have waits := start.run origin before
    obtain ⟨crossing, peaks⟩ := waits.cross origin width ((waits.crosses_iff _ v).2 ⟨⟨hlo, hhi⟩, reaches⟩)
    have after := Evaluator.run_induction (Evaluator.Peaks.take (by omega)) ys peaks
    have run : (Evaluator.start e excerpt total).run 0 (xs ++ v :: ys) =
        (((Evaluator.start e excerpt total).run 0 xs).take xs.length v).run (xs ++ [v]).length ys := by
      simp [Evaluator.run_append, Evaluator.run]
    rw [List.append_assoc, List.singleton_append, ← run] at after
    refine ⟨?_, after.results (by omega) inside⟩
    rw [run]
    exact Evaluator.crossing_run crossing _ ys
  · have waits := start.run origin no
    have unsynced : (GateAcc.start i g).result =
        { place := i, kind := g.kind, status := .unsynced, peak := 0, time := 0 } := by
      simp [GateAcc.result, GateAcc.start, origin]
    exact ⟨waits.crossing, unsynced ▸ List.mem_map_of_mem waits.gate⟩

/-- Settles O19: each sample is gathered into the open group, which closes at its last sample. -/
theorem excerptSamplesAreGroupMaxima : Obligations.ExcerptSamplesAreGroupMaxima := by
  intro e len samples positive fits
  have start : (Evaluator.start e (some len) samples.length).Gathers len samples.length [] :=
    ⟨_, rfl, ExcerptAcc.Gathers.start positive fits⟩
  obtain ⟨x, excerpt, gathers⟩ := Evaluator.run_induction (Evaluator.Gathers.take positive fits) samples start
  exact ⟨x, excerpt, gathers.length_samples positive fits rfl, gathers.groups⟩

end Sys2Proof.Proofs
end

section
/-! SUPPORT. The report of a shot and its flags, the tables of the Coupling Monitor, its notice, and the spray lines.
Settled here: O20, O21. -/

namespace Sys2Proof.Machine

/-! ## The tables (R113, R114) -/

theorem ProbeCoupling.hit_coupled {x : ProbeCoupling} (h : x.state ≠ .uncoupled) (m : Nat) :
    x.hit m = { x with state := .coupled, misses := 0 } := by
  obtain ⟨state, misses, recoveries⟩ := x
  cases state with
  | uncoupled => exact absurd rfl h
  | unknown | coupled | doubt => rfl

theorem ProbeCoupling.hit_uncoupled {x : ProbeCoupling} (h : x.state = .uncoupled) (m : Nat) :
    x.hit m =
      if m ≤ x.recoveries + 1 then { state := .coupled, misses := 0, recoveries := 0 }
      else { x with recoveries := x.recoveries + 1 } := by
  simp only [ProbeCoupling.hit, h]

theorem ProbeCoupling.miss_coupled {x : ProbeCoupling} (h : x.state ≠ .uncoupled) (n : Nat) :
    x.miss n =
      if n ≤ x.misses + 1 then { state := .uncoupled, misses := 0, recoveries := 0 }
      else { x with state := .doubt, misses := x.misses + 1 } := by
  obtain ⟨state, misses, recoveries⟩ := x
  cases state with
  | uncoupled => exact absurd rfl h
  | unknown | coupled | doubt => rfl

theorem ProbeCoupling.miss_uncoupled {x : ProbeCoupling} (h : x.state = .uncoupled) (n : Nat) :
    x.miss n = { x with recoveries := 0 } := by
  simp only [ProbeCoupling.miss, h]

theorem couplingNotice_iff (before after : CouplingState) :
    couplingNotice before after = true ↔ before ≠ after ∧ (before = .uncoupled ∨ after = .uncoupled) := by
  simp [couplingNotice]

/-- A change without a notice neither enters nor leaves UNCOUPLED (R117). -/
theorem uncoupled_iff_of_silent {before after : CouplingState} (silent : ¬ couplingNotice before after = true) :
    after = .uncoupled ↔ before = .uncoupled := by
  rw [couplingNotice_iff] at silent
  by_cases same : before = after
  · rw [same]
  · exact ⟨fun h => absurd ⟨same, .inr h⟩ silent, fun h => absurd ⟨same, .inl h⟩ silent⟩

/-! ## The spray lines (R118) -/

theorem mem_probesOf_a (p : ProbeNo) : p ∈ probesOf .a ↔ p.val < 12 := by revert p; decide

theorem mem_probesOf_b (p : ProbeNo) : p ∈ probesOf .b ↔ 12 ≤ p.val := by revert p; decide

theorem State.sprayDue_iff (s : State) (r : Rail) :
    s.sprayDue r = true ↔ s.run.state ≠ .idle ∧ ∃ p ∈ probesOf r, s.coup.probes[p].state = .uncoupled := by
  simp [State.sprayDue]

/-! ## The update of a probe (R112, R117) -/

/-- What the Coupling Monitor holds for a probe after a coupling hit or miss, with the M and N of the active bank. -/
def State.coupledEntry (s : State) (p : ProbeNo) (hit : Bool) : ProbeCoupling :=
  if hit then (s.coup.probes[p]).hit (s.bank.probe p).fields.recoveryRun
  else (s.coup.probes[p]).miss (s.bank.probe p).fields.lossRun

/-- The part with the entry of a probe replaced in the Coupling Monitor. -/
def State.setCoupling (s : State) (p : ProbeNo) (x : ProbeCoupling) : State :=
  { s with coup := { s.coup with probes := s.coup.probes.set p x } }

theorem State.probe_setCoupling (s : State) (p q : ProbeNo) (x : ProbeCoupling) :
    (s.setCoupling p x).coup.probes[q] = if q = p then x else s.coup.probes[q] :=
  getElem_set_fin s.coup.probes p q x

/-- A change that enters or leaves UNCOUPLED is noticed and moves the spray lines (R117, R118). -/
theorem State.couple_some (s : State) (p : ProbeNo) (hit : Bool) (n : StepNo) :
    s.couple p (some hit) n =
      if couplingNotice s.coup.probes[p].state (s.coupledEntry p hit).state then
        ((s.setCoupling p (s.coupledEntry p hit)).handRecord
          (.coupling p (s.coupledEntry p hit).state n)).refreshSpray
      else s.setCoupling p (s.coupledEntry p hit) := rfl

theorem State.probes_couple_some (s : State) (p : ProbeNo) (hit : Bool) (n : StepNo) :
    (s.couple p (some hit) n).coup.probes = s.coup.probes.set p (s.coupledEntry p hit) :=
  s.probes_couple p (some hit) n

theorem State.probe_couple_some (s : State) (p : ProbeNo) (hit : Bool) (n : StepNo) :
    (s.couple p (some hit) n).coup.probes[p] = s.coupledEntry p hit := by
  rw [State.probes_couple_some, getElem_set_fin, if_pos rfl]

/-! ## The alarmed and saturated flags (R105, R106) -/

theorem saturatedOf_iff (gates : List GateResult) : saturatedOf gates = true ↔ ∃ g ∈ gates, g.peak = 1023 := by
  simp [saturatedOf]

theorem alarmedOf_iff (gates : List GateResult) :
    alarmedOf gates = true ↔ ∃ g ∈ gates, (g.kind = .peak ∨ g.kind = .loss) ∧ g.status = .hit := by
  have kinds : ∀ k : GateKind, k ≠ .coupling ↔ k = .peak ∨ k = .loss := fun k => by cases k <;> decide
  simp only [alarmedOf, List.any_eq_true, Bool.and_eq_true, decide_eq_true_eq, kinds]

end Sys2Proof.Machine

namespace Sys2Proof.Proofs
open Sys2Proof.Machine

/-- Settles O20: the flags, the report decision, and the slot of a shot with and without a page. -/
theorem alarmSaturationAndReport : Obligations.AlarmSaturationAndReport := by
  refine ⟨saturatedOf_iff, alarmedOf_iff, fun _ _ _ _ => rfl, fun _ _ _ _ => rfl, fun g gates changed excerpt => ?_,
    fun _ _ _ _ _ => rfl, fun h n x r noPage => ?_, fun _ _ => rfl⟩
  · simp [reportDecision, or_assoc]
  · obtain ⟨phase, refs, content, page⟩ := x
    obtain rfl : page = none := noPage
    rfl

/-- Settles O21: the tables, and the update of a probe with a notice and without. -/
theorem couplingTables : Obligations.CouplingTables := by
  refine ⟨fun s p n => ⟨s.probe_couple_some p true n, s.probe_couple_some p false n, rfl⟩, ?_,
    fun x m h => x.hit_coupled h m, fun x m h more => ?_, fun x m h last => ?_, fun x n h more => ?_,
    fun x n h last => ?_, fun x n h => x.miss_uncoupled h n⟩
  · intro s p hit n
    dsimp only
    rw [State.probe_couple_some, ← couplingNotice_iff, State.couple_some]
    refine ⟨fun notice => ?_, fun silent => if_neg silent⟩
    rw [if_pos notice]
    refine ⟨rfl, rfl, ?_, ?_, rfl⟩
    · refine (State.sprayDue_iff _ .a).trans ?_
      simp only [mem_probesOf_a]
      rfl
    · refine (State.sprayDue_iff _ .b).trans ?_
      simp only [mem_probesOf_b]
      rfl
  · rw [ProbeCoupling.hit_uncoupled h, if_neg (by omega)]
  · rw [ProbeCoupling.hit_uncoupled h, if_pos last]
  · rw [ProbeCoupling.miss_coupled h, if_neg (by omega)]
  · rw [ProbeCoupling.miss_coupled h, if_pos last]

end Sys2Proof.Proofs
end

section
/-! SUPPORT. The spray lines and the runs of the probes through every command: the steps, the swap and the end of a run
keep both, the window end updates one probe, and every other command leaves the coupling states as they are or at their
reset values. Settled here: O57. -/

namespace Sys2Proof.Machine

/-! ## What the rails and the steps keep -/

/-- The spray lines stand at their condition, and steps are issued in a run only (R56, R118). -/
def State.sprayInRun (s : State) : Prop := (s.gen.state = .issuing → s.run.state ≠ .idle) ∧ s.sprayFollows

/-- From `s` to `t` the coupling states stand, and the spray lines stay at their condition. -/
structure State.MonitorKept (s t : State) : Prop where
  probes : t.coup.probes = s.coup.probes
  spray : s.sprayInRun → t.sprayInRun

section monitorKept
variable {s t u : State}

theorem State.sprayInRun_congr (coup : t.coup = s.coup) (gen : t.gen.state = s.gen.state)
    (run : t.run.state = s.run.state) : t.sprayInRun ↔ s.sprayInRun := by
  unfold State.sprayInRun State.sprayFollows State.sprayDue
  rw [coup, gen, run]

theorem State.MonitorKept.refl (s : State) : s.MonitorKept s := ⟨rfl, id⟩

theorem State.MonitorKept.trans (h : s.MonitorKept t) (k : t.MonitorKept u) : s.MonitorKept u :=
  ⟨k.probes.trans h.probes, fun x => k.spray (h.spray x)⟩

theorem State.MonitorKept.same (coup : t.coup = s.coup) (gen : t.gen.state = s.gen.state)
    (run : t.run.state = s.run.state) : s.MonitorKept t :=
  ⟨congrArg Coupling.probes coup, (State.sprayInRun_congr coup gen run).2⟩

theorem SameOutside.monitor (h : SameOutside s t) : s.MonitorKept t :=
  .same h.coup (congrArg StepGen.state h.gen) (congrArg RunControl.state h.run)

/-- At the end of a run the spray lines are deasserted (R118, R156, R157). -/
theorem State.MonitorKept.idle (probes : t.coup.probes = s.coup.probes) (gen : t.gen.state = .off)
    (run : t.run.state = .idle) (lines : t.coup.sprayA = false ∧ t.coup.sprayB = false) : s.MonitorKept t := by
  have off : t.gen.state ≠ .issuing := by rw [gen]; decide
  refine ⟨probes, fun _ => ⟨fun issuing => absurd issuing off, ?_⟩⟩
  simp [State.sprayFollows, State.sprayDue, run, lines]

end monitorKept

/-- The limit is reached in a run, which goes on to its end (R62, R118). -/
theorem State.monitor_haltAtLimit {s : State} (issuing : s.gen.state = .issuing) : s.MonitorKept s.haltAtLimit := by
  unfold State.haltAtLimit
  split
  · refine ⟨rfl, fun ⟨inRun, follows⟩ => ⟨fun h => (nomatch h), ?_⟩⟩
    have active : s.run.state ≠ .idle := inRun issuing
    simpa [State.sprayFollows, State.sprayDue, active] using follows
  · exact .refl s

theorem State.monitor_issue {s : State} (issuing : s.gen.state = .issuing) : s.MonitorKept s.issue := by
  obtain ⟨u, arrived, halted⟩ := s.issue_outside
  have numbered : s.MonitorKept { s with gen := { s.gen with stepNo := s.gen.stepNo + 1 } } := .same rfl rfl rfl
  have on : u.gen.state = .issuing := (congrArg StepGen.state arrived.gen).trans issuing
  exact ((numbered.trans arrived.monitor).trans (State.monitor_haltAtLimit on)).trans halted.monitor

theorem State.monitor_complete (s : State) : s.MonitorKept s.complete := by
  rw [State.complete_eq]
  exact .idle rfl rfl rfl ⟨rfl, rfl⟩

theorem State.monitor_completeIfDue (s : State) : s.MonitorKept s.completeIfDue := by
  unfold State.completeIfDue
  split
  · exact s.monitor_complete
  · exact .refl s

theorem State.monitor_issueReached (n : Nat) (s : State) : s.MonitorKept (State.issueReached n s) := by
  induction n generalizing s with
  | zero => exact .refl s
  | succ n ih =>
    unfold State.issueReached
    split
    · next due =>
      have advanced : s.MonitorKept s.advanceBoundary := .same rfl rfl rfl
      exact ((advanced.trans (State.monitor_issue (s := s.advanceBoundary) due.1)).trans
        (State.monitor_completeIfDue _)).trans (ih _)
    · exact .refl s

theorem State.monitor_newPitch (s : State) : s.MonitorKept s.newPitch := by
  unfold State.newPitch
  split
  · exact .refl s
  · exact .same rfl rfl rfl

theorem State.monitor_swap (s : State) : s.MonitorKept s.swap := by
  unfold State.swap
  split
  · next sig p _ _ =>
    let t := State.clearFired { s with plan := s.plan.swapped sig }
    have cleared : s.MonitorKept (t.handRecord (.plan t.plan.epoch sig t.plan.activeIx p)) := .same rfl rfl rfl
    exact (cleared.trans (State.monitor_newPitch _)).trans (State.monitor_issueReached _ _)
  · exact .refl s

theorem State.monitor_swapIfDue (s : State) : s.MonitorKept s.swapIfDue := by
  unfold State.swapIfDue
  split
  · exact s.monitor_swap
  · exact .refl s

theorem State.monitor_afterCycles (s : State) : s.MonitorKept s.afterCycles := by
  unfold State.afterCycles
  split
  · have counted : s.MonitorKept { s with freeCount := s.freeCount + 1 } := .same rfl rfl rfl
    dsimp only
    split
    · exact (counted.trans (State.monitor_swap _)).trans (State.monitor_completeIfDue _)
    · exact (counted.trans (State.monitor_complete _)).trans (State.monitor_swapIfDue _)
  · exact s.monitor_completeIfDue.trans (State.monitor_swapIfDue _)

/-! ## The events of the track -/

theorem State.monitor_endPool (s : State) : s.MonitorKept s.endPool := (sameOutside_endPool s).monitor

theorem State.monitor_genTick (s : State) (plus : Bool) : s.MonitorKept (s.genTick plus) := by
  by_cases off : s.gen.state = .off
  · rw [State.genTick_off off]
    exact .refl s
  · obtain ⟨d, n, -, e⟩ := State.genTick_on off plus
    rw [e]
    split
    · next reached =>
      have advanced : s.MonitorKept (s.follow d n).advanceBoundary := .same rfl rfl rfl
      exact (advanced.trans (State.monitor_issue (s := (s.follow d n).advanceBoundary) reached.2.1)).trans
        (State.monitor_afterCycles _)
    · exact .same rfl rfl rfl

theorem State.monitor_ticks (plus : Bool) (n : Nat) (s : State) : s.MonitorKept (State.ticks plus n s) := by
  induction n generalizing s with
  | zero => exact .refl s
  | succ n ih =>
    let t : State :=
      { s with
        odo :=
          { s.odo with
            position := if plus then s.odo.position + 1 else s.odo.position - 1
            tally := if plus then s.odo.tally + 1 else s.odo.tally - 1 } }
    have ticked : s.MonitorKept t := .same rfl rfl rfl
    exact (ticked.trans (t.monitor_genTick plus)).trans (ih _)

theorem State.monitor_count (s : State) (plus : Bool) : s.MonitorKept (s.count plus) := by
  let u : State := { s with odo := { s.odo with rem := (s.odo.scale plus).2 } }
  have scaled : s.MonitorKept u := .same rfl rfl rfl
  exact (scaled.trans (State.monitor_ticks plus _ u)).trans (.same rfl rfl rfl)

theorem State.monitor_transition (s : State) (a b : Bool) : s.MonitorKept (s.transition a b) := by
  let t : State := { s with odo := { s.odo with lineA := a, lineB := b } }
  have sampled : s.MonitorKept t := .same rfl rfl rfl
  unfold State.transition
  dsimp only
  split
  · exact sampled
  · exact (sampled.trans (t.monitor_count true)).trans (State.monitor_endPool _)
  · exact (sampled.trans (t.monitor_count false)).trans (State.monitor_endPool _)
  · have fault : s.MonitorKept t.encoderFault := .same rfl rfl rfl
    exact fault.trans (State.monitor_endPool _)

theorem State.monitor_markerChange (s : State) (m : Marker) (level : Bool) :
    s.MonitorKept (s.markerChange m level) := by
  let t : State := { s with odo := s.odo.setMarker m { s.odo.marker m with level := level } }
  have accepted : s.MonitorKept (t.acceptMarker m) := .same rfl rfl rfl
  unfold State.markerChange
  dsimp only
  split
  · exact accepted.trans (State.monitor_endPool _)
  · exact .same rfl rfl rfl

theorem State.monitor_restartStepTimer (s : State) : s.MonitorKept s.restartStepTimer := by
  unfold State.restartStepTimer
  split
  · exact .same rfl rfl rfl
  · exact .refl s

theorem State.monitor_timerExpiry (s : State) : s.MonitorKept s.timerExpiry := by
  unfold State.timerExpiry
  split
  · next due =>
    exact (((State.monitor_issue due.1).trans (State.monitor_afterCycles _)).trans
      (State.monitor_restartStepTimer _)).trans (State.monitor_endPool _)
  · exact .refl s

theorem State.monitor_settleEnd (s : State) (c : Chan) : s.MonitorKept (s.settleEnd c) := by
  unfold State.settleEnd
  split
  · next b _ _ =>
    split
    · exact .same rfl rfl rfl
    · have ended := (((sameOutside_releaseRail s b.rail).trans (sameOutside_movePointer _ b.rail)).trans
        (sameOutside_clearGroup _ b.rail)).trans (sameOutside_walkOn _ b.rail)
      exact (ended.trans (sameOutside_pass _)).monitor.trans (State.monitor_afterCycles _)
  · exact .refl s

/-! ## The requests of the run and the odometer -/

theorem State.monitor_reform (s : State) (i : ProbeNo) : s.MonitorKept (s.reform i) := by
  obtain ⟨requesting, named⟩ | free := (s.seq (railOf i)).named_or_passesOver s.bank i
  · have reduced : SameOutside s (s.reduced i) := (SameOutside.setSeq s _ _).trans (SameOutside.setArb _ _)
    rw [State.reform_named requesting named]
    refine State.MonitorKept.trans ?_ (State.monitor_afterCycles _)
    refine (SameOutside.trans ?_ (sameOutside_pass _)).monitor
    split
    · exact reduced.trans (sameOutside_walkOn _ _)
    · exact reduced
  · rw [State.reform_unnamed free]
    exact .refl s

theorem State.monitor_setScalerBy (s : State) (num den : BitVec 16) : s.MonitorKept (s.setScalerBy num den).1 := by
  unfold State.setScalerBy
  split
  · split
    · exact .refl s
    · exact .same rfl rfl rfl
  · exact .refl s

theorem State.monitor_setMarkerBy (s : State) (marker enabled edge : Byte) (lockout : BitVec 16) (action : Byte)
    (load : Pos) : s.MonitorKept (s.setMarkerBy marker enabled edge lockout action load).1 := by
  unfold State.setMarkerBy
  split
  · exact .refl s
  · exact .same rfl rfl rfl

theorem State.monitor_stopBy (s : State) : s.MonitorKept s.stopBy.1 := by
  unfold State.stopBy
  split
  · exact .refl s
  · have stopped : s.MonitorKept s.stop := by
      rw [State.stop_eq]
      exact .idle rfl rfl rfl ⟨rfl, rfl⟩
    exact (stopped.trans (State.monitor_swapIfDue _)).trans (State.monitor_endPool _)

theorem State.monitor_resetRelease {s t : State} {encA encB m0 m1 : Bool} {present : PortSet}
    (e : execResetRelease encA encB m0 m1 present s = .next t) : s.MonitorKept t := by
  cases e
  split
  · exact .same rfl rfl rfl
  · exact .refl s

/-! ## The window end -/

/-- The completion of a shot changes the Coupling Monitor as the shot's coupling status says, and the hub (R109). -/
theorem State.completeShot_cases (s : State) (b : Binding) (e : Evaluator) :
    s.completeShot b e = s ∨
      ∃ n h, s.completeShot b e = (s.couple b.probe (couplingHit e.results) n).withHub h := by
  cases hx : s.hub.pool.slot b.slot with
  | none => exact .inl (by simp [State.completeShot, hx])
  | some x =>
    cases hc : x.content with
    | shot g rule => exact .inr ⟨_, _, State.completeShot_eq hx hc e⟩
    | blank => exact .inl (by simp [State.completeShot, hx, hc])
    | unnumbered r => exact .inl (by simp [State.completeShot, hx, hc])
    | record seq r => exact .inl (by simp [State.completeShot, hx, hc])

/-- From `s` to `t` the Coupling Monitor takes one shot at most, under the bank of `s` (R109, R112). -/
def State.CouplesOnce (s t : State) : Prop :=
  ∃ u p hit n, SameOutside s u ∧ (u.couple p hit n).MonitorKept t

theorem State.couplesOnce_windowEnd (s : State) (c : Chan) (first : Sample) (rest : List Sample) :
    s.CouplesOnce (s.windowEnd c first rest) := by
  unfold State.windowEnd
  split
  · next b _ _ =>
    dsimp only
    generalize s.chans[c].eval.run 0 (streamSamples (b.window.getD 0) first rest) = e
    generalize { s.chans[c] with
      phase := .settling
      binding := some { b with window := none, settle := some (s.bank.probe b.probe).fields.settle }
      eval := e } = x
    obtain ⟨hit, n, completed⟩ : ∃ hit n, SameOutside ((s.setChan c x).couple b.probe hit n)
        ((s.setChan c x).completeShot b e) := by
      obtain same | ⟨n, h, coupled⟩ := (s.setChan c x).completeShot_cases b e
      · exact ⟨none, 0, by rw [same]; exact .refl _⟩
      · exact ⟨_, n, by rw [coupled]; exact .withHub _ h⟩
    refine ⟨s.setChan c x, b.probe, hit, n, .setChan s c x, ?_⟩
    have counted := fun y => (completed.trans (SameOutside.setSeq _ b.rail y)).monitor
    split
    · exact (counted _).trans (State.monitor_settleEnd _ c)
    · exact counted _
  · exact ⟨s, 0, none, 0, .refl s, .refl s⟩

/-- A change of a probe that is not noticed neither enters nor leaves UNCOUPLED, so the spray conditions stand; one that
is noticed sets the lines to them (R117, R118). -/
theorem State.sprayInRun_couple {s : State} (h : s.sprayInRun) (p : ProbeNo) (hit : Option Bool) (n : StepNo) :
    (s.couple p hit n).sprayInRun := by
  obtain ⟨inRun, follows⟩ := h
  cases hit with
  | none => exact ⟨inRun, follows⟩
  | some hit =>
    rw [State.couple_some]
    split
    · exact ⟨inRun, rfl, rfl⟩
    · next silent =>
      have still : ∀ q : ProbeNo, (s.setCoupling p (s.coupledEntry p hit)).coup.probes[q].state = .uncoupled ↔
          s.coup.probes[q].state = .uncoupled := fun q => by
        rw [State.probe_setCoupling]
        split
        · next e => rw [e, uncoupled_iff_of_silent silent]
        · exact Iff.rfl
      have due : ∀ r, (s.setCoupling p (s.coupledEntry p hit)).sprayDue r = s.sprayDue r := fun r => by
        rw [Bool.eq_iff_iff, State.sprayDue_iff, State.sprayDue_iff]
        simp only [still]
        rfl
      exact ⟨inRun, follows.1.trans (due .a).symm, follows.2.trans (due .b).symm⟩

/-- Every operation keeps the spray lines at their condition. -/
theorem operationsKeep_sprayInRun : OperationsKeep fun s t => s.sprayInRun → t.sprayInRun where
  refl _ := id
  trans h k x := k (h x)
  hub s h := (SameOutside.withHub s h).monitor.spray
  plan s x := (State.MonitorKept.same (t := { s with plan := x }) rfl rfl rfl).spray
  holdSet s i x := (State.MonitorKept.same (t := s.setHold i x) rfl rfl rfl).spray
  hardwareReset s _ := ⟨fun issuing => (nomatch issuing), rfl, rfl⟩
  resetRelease _ _ _ _ _ _ _ e := (State.monitor_resetRelease e).spray
  transition s a b := (s.monitor_transition a b).spray
  speedWindow s := (State.MonitorKept.same (t := s.speedWindow) rfl rfl rfl).spray
  markerChange s m level := (s.monitor_markerChange m level).spray
  timerExpiry s := s.monitor_timerExpiry.spray
  windowEnd s c first rest h := by
    obtain ⟨u, p, hit, n, outside, kept⟩ := s.couplesOnce_windowEnd c first rest
    exact kept.spray (State.sprayInRun_couple (outside.monitor.spray h) p hit n)
  settleEnd s c := (s.monitor_settleEnd c).spray
  afterCycles s := s.monitor_afterCycles.spray
  reform s i := (s.monitor_reform i).spray
  setScaler s num den := (s.monitor_setScalerBy num den).spray
  setPosition s position := (State.MonitorKept.same (t := (s.setPositionBy position).1) rfl rfl rfl).spray
  setMarker s marker enabled edge lockout action load :=
    (s.monitor_setMarkerBy marker enabled edge lockout action load).spray
  start s limit label h := by
    unfold State.startBy
    split
    · exact (State.monitor_endPool _).spray ⟨fun _ c => (nomatch c), rfl, rfl⟩
    · exact h
  stop s := s.monitor_stopBy.spray

/-! ## The runs of a probe (R111 to R114) -/

theorem ProbeCoupling.ranged_hit {x : ProbeCoupling} (h : x.ranged) {m : Nat} (small : m ≤ 15) :
    (x.hit m).ranged := by
  obtain ⟨misses, recoveries, noMiss, noRecovery⟩ := h
  by_cases uncoupled : x.state = .uncoupled
  · rw [ProbeCoupling.hit_uncoupled uncoupled]
    split
    · exact ⟨by simp, by simp, by simp, by simp⟩
    · exact ⟨misses, by dsimp only; omega, noMiss, fun c => absurd uncoupled c⟩
  · rw [ProbeCoupling.hit_coupled uncoupled]
    exact ⟨by simp, recoveries, fun _ => rfl, fun _ => noRecovery uncoupled⟩

theorem ProbeCoupling.ranged_miss {x : ProbeCoupling} (h : x.ranged) {n : Nat} (small : n ≤ 15) :
    (x.miss n).ranged := by
  obtain ⟨misses, recoveries, noMiss, noRecovery⟩ := h
  by_cases uncoupled : x.state = .uncoupled
  · rw [ProbeCoupling.miss_uncoupled uncoupled]
    exact ⟨misses, by simp, noMiss, fun _ => rfl⟩
  · rw [ProbeCoupling.miss_coupled uncoupled]
    split
    · exact ⟨by simp, by simp, by simp, by simp⟩
    · exact ⟨by dsimp only; omega, recoveries, fun c => absurd rfl c, fun _ => noRecovery uncoupled⟩

theorem State.couplingRanged_couple {s : State} (bank : s.bank.ranged) (h : s.couplingRanged) (p : ProbeNo)
    (hit : Option Bool) (n : StepNo) : (s.couple p hit n).couplingRanged := by
  cases hit with
  | none => exact h
  | some hit =>
    obtain ⟨-, -, -, -, -, ⟨-, loss⟩, -, recovery⟩ := (bank.2.1 p).1
    intro q
    rw [State.probes_couple_some, getElem_set_fin]
    split
    · cases hit with
      | true => exact ProbeCoupling.ranged_hit (h p) recovery
      | false => exact ProbeCoupling.ranged_miss (h p) loss
    · exact h q

/-! ## The commands other than the window end -/

/-- From `s` to `t` the coupling states stand, or they have taken their reset values (R111). -/
def State.ProbesKept (s t : State) : Prop :=
  t.coup.probes = s.coup.probes ∨ t.coup.probes = Coupling.reset.probes

section probesKept
variable {s t u : State}

theorem State.ProbesKept.same (h : t.coup = s.coup) : s.ProbesKept t := .inl (congrArg Coupling.probes h)

theorem State.ProbesKept.refl (s : State) : s.ProbesKept s := .inl rfl

theorem State.ProbesKept.trans (h : s.ProbesKept t) (k : t.ProbesKept u) : s.ProbesKept u := by
  rcases k with k | k
  · exact h.imp k.trans k.trans
  · exact .inr k

theorem State.MonitorKept.kept (h : s.MonitorKept t) : s.ProbesKept t := .inl h.probes

theorem SameOutside.kept (h : SameOutside s t) : s.ProbesKept t := .same h.coup

theorem State.ProbesKept.couplingRanged (k : s.ProbesKept t) (h : s.couplingRanged) : t.couplingRanged := by
  intro p
  rcases k with k | k
  · rw [k]
    exact h p
  · rw [k]
    exact State.couplingRanged_reset p

end probesKept

theorem State.probesKept_receive (s : State) (p : Port) (tag kind : Byte) {act : State → State}
    (h : ∀ t : State, t.ProbesKept (act t)) : s.ProbesKept (s.receive p tag kind act) := by
  unfold State.receive
  split
  · exact .refl s
  · exact .same rfl
  · exact State.ProbesKept.trans (.same rfl) (h _)
  · exact State.ProbesKept.trans (.same rfl) (h _)

theorem State.probesKept_request (s : State) (p : Port) (tag kind : Byte) {serve : State → State × Reply}
    (h : ∀ t : State, t.ProbesKept (serve t).1) : s.ProbesKept (s.request p tag kind serve) :=
  s.probesKept_receive p tag kind fun t => (h t).trans (.same rfl)

theorem State.probesKept_rightRequest (s : State) (p : Port) (tag kind : Byte) {body : State → State × Reply}
    (h : ∀ t : State, t.ProbesKept (body t).1) :
    s.ProbesKept (s.request p tag kind fun t => t.withRight p body) := by
  refine s.probesKept_request p tag kind fun t => ?_
  unfold State.withRight
  split
  · dsimp only
    split
    · exact (h t).trans (.same rfl)
    · exact h t
  · exact .refl t

theorem State.probesKept_writeShadow (s : State) (checks : List Bool) (edit : Bank → Bank) :
    s.ProbesKept (s.writeShadow checks edit).1 := by
  unfold State.writeShadow
  split
  · split <;> exact .same rfl
  · exact .refl s

theorem State.probesKept_claim (s : State) (p : Port) : s.ProbesKept (s.claim p).1 := by
  unfold State.claim
  split
  · exact .same rfl
  · split <;> exact .same rfl

theorem State.probesKept_releaseRight (s : State) (p : Port) : s.ProbesKept (s.releaseRight p).1 := by
  unfold State.releaseRight
  split <;> exact .same rfl

theorem State.probesKept_commitBy (s : State) (p : Port) : s.ProbesKept (s.commitBy p).1 := by
  unfold State.commitBy
  split
  · split
    · exact .refl s
    · next figs _ =>
      have pended : s.MonitorKept { s with plan := s.plan.pend figs.signature p } := .same rfl rfl rfl
      exact ((pended.trans (State.monitor_afterCycles _)).trans (State.monitor_endPool _)).kept
  · exact .refl s

theorem State.probesKept_abandonBy (s : State) : s.ProbesKept (s.abandonBy.1) := by
  unfold State.abandonBy
  split <;> exact .same rfl

theorem State.probesKept_snapshotBy (s : State) (p : Port) (probe : Byte) :
    s.ProbesKept (s.snapshotBy p probe).1 := by
  unfold State.snapshotBy
  split
  · exact .refl s
  · split <;> exact .same rfl

theorem State.probesKept_readEntry (s : State) (role item index : Byte) :
    s.ProbesKept (s.readEntry role item index).1 := by
  unfold State.readEntry
  split <;> exact .refl s

theorem State.probesKept_holdBy (s : State) (p : Port) (probe : Byte) : s.ProbesKept (s.holdBy p probe).1 := by
  unfold State.holdBy
  split
  · exact .refl s
  · dsimp only
    unfold State.hold
    split
    · have recorded : s.ProbesKept
          ((s.setHold (probeOf probe) (portAdd p s.run.holds[probeOf probe])).handRecord
            (.hold (probeOf probe) .held p)) := .same rfl
      exact recorded.trans ((State.monitor_reform _ _).trans (State.monitor_endPool _)).kept
    · exact .same rfl

theorem State.probesKept_unhold (s : State) (p : Port) (i : ProbeNo) : s.ProbesKept (s.unhold p i) := by
  unfold State.unhold
  split
  · dsimp only
    split <;> exact .same rfl
  · exact .refl s

theorem State.probesKept_unholdBy (s : State) (p : Port) (probe : Byte) : s.ProbesKept (s.unholdBy p probe).1 := by
  unfold State.unholdBy
  split
  · exact .refl s
  · split
    · exact (s.probesKept_unhold p _).trans (State.monitor_endPool _).kept
    · exact .refl s

/-- A run begins with every probe at its reset values (R111, R153). -/
theorem State.probesKept_startBy (s : State) (limit : BitVec 24) (label : BitVec 16) :
    s.ProbesKept (s.startBy limit label).1 := by
  unfold State.startBy
  split
  · exact State.ProbesKept.trans (t := (s.beginRun limit label).handRecord (.run .start label 0)) (.inr rfl)
      (State.monitor_endPool _).kept
  · exact .refl s

/-! ## Requests and frames -/

theorem State.probesKept_doConfigurePort (s : State) (p : Port) (tag : Byte) (hold threshold : BitVec 16) :
    s.ProbesKept (s.doConfigurePort p tag hold threshold) :=
  s.probesKept_request p tag _ fun t => by split <;> exact .same rfl

theorem State.probesKept_doSubscribe (s : State) (p : Port) (tag entry matchVal mask enabled : Byte) :
    s.ProbesKept (s.doSubscribe p tag entry matchVal mask enabled) :=
  s.probesKept_request p tag _ fun t => by split <;> exact .same rfl

theorem State.probesKept_doGeneral (s : State) (p : Port) (tag flag : Byte) :
    s.ProbesKept (s.doGeneral p tag flag) :=
  s.probesKept_request p tag _ fun t => by split <;> exact .same rfl

theorem State.probesKept_doTake (s : State) (p : Port) (tag count : Byte) : s.ProbesKept (s.doTake p tag count) :=
  s.probesKept_receive p tag _ fun _ => .same rfl

theorem State.probesKept_doUnknown (s : State) (p : Port) (tag kind : Byte) :
    s.ProbesKept (s.doUnknown p tag kind) :=
  s.probesKept_request p tag kind .refl

/-- A complete frame acts as the request of its kind (R165, R166). -/
theorem State.probesKept_handleFrame (s : State) (p : Port) (tag kind : Byte) (payload : List Byte) :
    s.ProbesKept (s.handleFrame p tag kind payload) :=
  State.handleFrame_cases (P := s.ProbesKept)
    (identify := s.probesKept_request p tag _ .refl)
    (readStatus := s.probesKept_request p tag _ .refl)
    (configurePort := s.probesKept_doConfigurePort p tag)
    (subscribe := s.probesKept_doSubscribe p tag)
    (general := s.probesKept_doGeneral p tag)
    (take := s.probesKept_doTake p tag)
    (snapshot := fun _ => s.probesKept_request p tag _ fun t => t.probesKept_snapshotBy p _)
    (cancelSnapshot := s.probesKept_request p tag _ fun _ => .same rfl)
    (readPlanEntry := fun _ _ _ => s.probesKept_request p tag _ fun t => t.probesKept_readEntry _ _ _)
    (claimEdit := s.probesKept_request p tag _ fun t => t.probesKept_claim p)
    (startRun := fun _ _ => s.probesKept_request p tag _ fun t => t.probesKept_startBy _ _)
    (stopRun := s.probesKept_request p tag _ fun t => t.monitor_stopBy.kept)
    (holdProbe := fun _ => s.probesKept_request p tag _ fun t => t.probesKept_holdBy p _)
    (releaseProbe := fun _ => s.probesKept_request p tag _ fun t => t.probesKept_unholdBy p _)
    (releaseEdit := s.probesKept_request p tag _ fun t => t.probesKept_releaseRight p)
    (writeStepSettings := fun _ _ _ _ _ _ => s.probesKept_rightRequest p tag _ fun t => t.probesKept_writeShadow _ _)
    (writeProbe := fun _ _ _ _ _ _ _ _ => s.probesKept_rightRequest p tag _ fun t => t.probesKept_writeShadow _ _)
    (writeGate := fun _ _ _ _ _ _ _ _ => s.probesKept_rightRequest p tag _ fun t => t.probesKept_writeShadow _ _)
    (writeBlock := fun _ _ _ _ _ _ _ _ _ _ =>
      s.probesKept_rightRequest p tag _ fun t => t.probesKept_writeShadow _ _)
    (commit := s.probesKept_rightRequest p tag _ fun t => t.probesKept_commitBy p)
    (abandon := s.probesKept_rightRequest p tag _ State.probesKept_abandonBy)
    (setScaler := fun _ _ => s.probesKept_rightRequest p tag _ fun t => (t.monitor_setScalerBy _ _).kept)
    (setPosition := fun _ => s.probesKept_rightRequest p tag _ fun _ => .same rfl)
    (setMarker := fun _ _ _ _ _ _ =>
      s.probesKept_rightRequest p tag _ fun t => (t.monitor_setMarkerBy _ _ _ _ _ _).kept)
    (kind := kind) (unknown := s.probesKept_doUnknown p tag kind) (payload := payload)

theorem State.probesKept_frameComplete (s : State) (p : Port) (len : Byte) (body : List Byte) :
    s.ProbesKept (s.frameComplete p len body) := by
  have handled : ∀ tag kind payload, s.ProbesKept ((s.setRx p []).handleFrame p tag kind payload) :=
    fun tag kind payload => State.ProbesKept.trans (.same rfl) (State.probesKept_handleFrame _ p tag kind payload)
  unfold State.frameComplete
  dsimp only
  split
  · split
    · split
      · split
        · exact handled _ _ _
        · exact .same rfl
      · exact handled _ _ _
    · exact .same rfl
  · exact .same rfl

theorem State.probesKept_receiveChar (s : State) (p : Port) (c : Byte) : s.ProbesKept (s.receiveChar p c) := by
  unfold State.receiveChar
  split
  · split <;> exact .same rfl
  · split <;> exact .same rfl
  · split
    · exact .same rfl
    · exact s.probesKept_frameComplete p _ _

theorem State.probesKept_foldl {α : Type} {f : State → α → State} (h : ∀ (s : State) x, s.ProbesKept (f s x))
    (l : List α) (s : State) : s.ProbesKept (l.foldl f s) := by
  induction l generalizing s with
  | nil => exact .refl s
  | cons x l ih => exact (h s x).trans (ih _)

/-! ## Events of the ports -/

theorem State.probesKept_receiveChars (s : State) (p : Port) (chars : List Byte) :
    s.ProbesKept (s.receiveChars p chars) := by
  unfold State.receiveChars
  split
  · exact .refl s
  · exact State.probesKept_foldl (fun t c => t.probesKept_receiveChar p c) chars s

theorem State.probesKept_gapTimeout (s : State) (p : Port) : s.ProbesKept (s.gapTimeout p) := by
  unfold State.gapTimeout
  split <;> exact .same rfl

theorem State.probesKept_idleExpiry (s : State) : s.ProbesKept s.idleExpiry := by
  unfold State.idleExpiry
  split <;> exact .same rfl

theorem State.probesKept_heldExpiry (s : State) (p : Port) : s.ProbesKept (s.heldExpiry p) := by
  unfold State.heldExpiry
  split <;> exact .same rfl

theorem State.probesKept_presentRises (s : State) (p : Port) : s.ProbesKept (s.presentRises p) := by
  unfold State.presentRises
  split <;> exact .same rfl

theorem State.probesKept_dropRight (s : State) (p : Port) : s.ProbesKept (s.dropRight p) := by
  unfold State.dropRight
  split <;> exact .same rfl

theorem State.probesKept_presentFalls (s : State) (p : Port) : s.ProbesKept (s.presentFalls p) := by
  unfold State.presentFalls
  split
  · exact .refl s
  · have dropped : s.ProbesKept ((s.withHub (s.hub.resetPort p)).dropHolds p) :=
      State.ProbesKept.trans (.same rfl)
        (State.probesKept_foldl (fun t i => t.probesKept_unhold p i) (List.finRange 24) _)
    exact (dropped.trans (State.probesKept_dropRight _ p)).trans (State.monitor_endPool _).kept

theorem State.probesKept_sent (s : State) (p : Port) : s.ProbesKept (s.sent p) := by
  unfold State.sent
  split
  · exact .refl s
  · exact .same rfl
  · exact .same rfl
  · split
    · exact .same rfl
    · next e rest _ =>
      have removed : s.ProbesKept (s.withHub (s.hub.removeHead p e rest)) := .same rfl
      exact (removed.trans (State.monitor_endPool _).kept).trans (.same rfl)

/-! ## Commands -/

theorem probesKept_whileReleased {f : State → State} (h : ∀ s : State, s.ProbesKept (f s)) {s t : State}
    (e : whileReleased f s = .next t) : s.ProbesKept t := by
  cases e
  split
  · exact .refl s
  · exact h s

/-- Every command but a window end keeps the coupling states or sets them to their reset values. -/
theorem exec_probesKept {c : Instr} (notWindow : ∀ ch first rest, c ≠ .channelWindowEnd ch first rest) {s t : State}
    (e : exec c s = .next t) : s.ProbesKept t := by
  cases c with
  | channelWindowEnd ch first rest => exact absurd rfl (notWindow ch first rest)
  | hardwareReset => cases e; exact .inr rfl
  | resetRelease encA encB m0 m1 present => exact (State.monitor_resetRelease e).kept
  | encoderTransition a b => exact probesKept_whileReleased (fun s => (s.monitor_transition a b).kept) e
  | speedWindowEnd => exact probesKept_whileReleased (f := State.speedWindow) (fun _ => .same rfl) e
  | markerEdge m level => exact probesKept_whileReleased (fun s => (s.monitor_markerChange m level).kept) e
  | stepTimerExpiry => exact probesKept_whileReleased (fun s => s.monitor_timerExpiry.kept) e
  | channelSettleEnd ch =>
    exact probesKept_whileReleased (fun s => ((s.monitor_settleEnd ch).trans (State.monitor_endPool _)).kept) e
  | shadowCopyCompletion =>
    exact probesKept_whileReleased (f := fun s => { s with plan := s.plan.copyDone }) (fun _ => .same rfl) e
  | editIdleTimerExpiry => exact probesKept_whileReleased State.probesKept_idleExpiry e
  | heldTakeExpiry p => exact probesKept_whileReleased (fun s => s.probesKept_heldExpiry p) e
  | presentAsserted p => exact probesKept_whileReleased (fun s => s.probesKept_presentRises p) e
  | portReset p => exact probesKept_whileReleased (fun s => s.probesKept_presentFalls p) e
  | frameError p chars => exact probesKept_whileReleased (fun s => s.probesKept_receiveChars p chars) e
  | interCharacterGapTimeout p => exact probesKept_whileReleased (fun s => s.probesKept_gapTimeout p) e
  | unknownRequest p tag kind =>
    refine probesKept_whileReleased (f := fun s => if knownKind kind then s else s.doUnknown p tag kind) (fun s => ?_) e
    split
    · exact .refl s
    · exact s.probesKept_doUnknown p tag kind
  | busyRefusal p tag kind =>
    refine probesKept_whileReleased
      (f := fun s => if (s.hub.ctl p).state = .answering then s.receive p tag kind (fun u => u) else s) (fun s => ?_) e
    split
    · exact s.probesKept_receive p tag kind .refl
    · exact .refl s
  | frameSent p => exact probesKept_whileReleased (fun s => s.probesKept_sent p) e
  | identify p tag => exact probesKept_whileReleased (fun s => s.probesKept_request p tag _ .refl) e
  | readStatus p tag => exact probesKept_whileReleased (fun s => s.probesKept_request p tag _ .refl) e
  | configurePort p tag => exact probesKept_whileReleased (fun s => s.probesKept_doConfigurePort p tag _ _) e
  | subscribe p tag => exact probesKept_whileReleased (fun s => s.probesKept_doSubscribe p tag _ _ _ _) e
  | general p tag => exact probesKept_whileReleased (fun s => s.probesKept_doGeneral p tag _) e
  | take p tag => exact probesKept_whileReleased (fun s => s.probesKept_doTake p tag _) e
  | snapshot p tag =>
    exact probesKept_whileReleased (fun s => s.probesKept_request p tag _ fun t => t.probesKept_snapshotBy p _) e
  | cancelSnapshot p tag =>
    exact probesKept_whileReleased (fun s => s.probesKept_request p tag _ fun _ => .same rfl) e
  | readPlanEntry p tag =>
    exact probesKept_whileReleased (fun s => s.probesKept_request p tag _ fun t => t.probesKept_readEntry _ _ _) e
  | claimEdit p tag =>
    exact probesKept_whileReleased (fun s => s.probesKept_request p tag _ fun t => t.probesKept_claim p) e
  | releaseEdit p tag =>
    exact probesKept_whileReleased (fun s => s.probesKept_request p tag _ fun t => t.probesKept_releaseRight p) e
  | writeStepSettings p tag | writeProbe p tag | writeGate p tag | writeBlock p tag =>
    exact probesKept_whileReleased
      (fun s => s.probesKept_rightRequest p tag _ fun t => t.probesKept_writeShadow _ _) e
  | commit p tag =>
    exact probesKept_whileReleased (fun s => s.probesKept_rightRequest p tag _ fun t => t.probesKept_commitBy p) e
  | abandon p tag =>
    exact probesKept_whileReleased (fun s => s.probesKept_rightRequest p tag _ State.probesKept_abandonBy) e
  | setScaler p tag =>
    exact probesKept_whileReleased
      (fun s => s.probesKept_rightRequest p tag _ fun t => (t.monitor_setScalerBy _ _).kept) e
  | setPosition p tag =>
    exact probesKept_whileReleased (fun s => s.probesKept_rightRequest p tag _ fun _ => .same rfl) e
  | setMarker p tag =>
    exact probesKept_whileReleased
      (fun s => s.probesKept_rightRequest p tag _ fun t => (t.monitor_setMarkerBy _ _ _ _ _ _).kept) e
  | startRun p tag =>
    exact probesKept_whileReleased (fun s => s.probesKept_request p tag _ fun t => t.probesKept_startBy _ _) e
  | stopRun p tag =>
    exact probesKept_whileReleased (fun s => s.probesKept_request p tag _ fun t => t.monitor_stopBy.kept) e
  | holdProbe p tag =>
    exact probesKept_whileReleased (fun s => s.probesKept_request p tag _ fun t => t.probesKept_holdBy p _) e
  | releaseProbe p tag =>
    exact probesKept_whileReleased (fun s => s.probesKept_request p tag _ fun t => t.probesKept_unholdBy p _) e

/-- A window end updates one probe, with the M and N of the active bank, which are within their ranges (R15, R113,
R114). -/
theorem State.couplingRanged_windowEnd {s : State} (bank : s.bank.ranged) (h : s.couplingRanged) (c : Chan)
    (first : Sample) (rest : List Sample) : (s.windowEnd c first rest).couplingRanged := by
  obtain ⟨u, p, hit, n, outside, kept⟩ := s.couplesOnce_windowEnd c first rest
  refine kept.kept.couplingRanged (State.couplingRanged_couple ?_ (outside.kept.couplingRanged h) p hit n)
  rw [outside.bank]
  exact bank

theorem exec_couplingRanged {s t : State} (banks : s.banksRanged) (h : s.couplingRanged) {c : Instr}
    (e : exec c s = .next t) : t.couplingRanged := by
  by_cases window : ∃ ch first rest, c = .channelWindowEnd ch first rest
  · obtain ⟨ch, first, rest, rfl⟩ := window
    have bank : s.bank.ranged := ((State.banksRanged_iff s).1 banks).1
    cases e
    split
    · exact h
    · exact (State.monitor_endPool _).kept.couplingRanged (State.couplingRanged_windowEnd bank h ch first rest)
  · exact (exec_probesKept (fun ch first rest e => window ⟨ch, first, rest, e⟩) e).couplingRanged h

end Sys2Proof.Machine

namespace Sys2Proof.Proofs
open Sys2Proof.Machine

/-- Settles O57: every operation keeps the spray lines at their condition; a window end keeps the runs of its probe in
range by the N and M of a bank in range, and every other command keeps or resets the coupling states. -/
theorem stepsKeepSprayAndCoupling : Obligations.StepsKeepSprayAndCoupling := by
  refine ⟨fun s t agrees follows e => ?_, fun s t banks ranged e => ?_⟩
  · obtain ⟨-, running, -, -, -⟩ := agrees
    have inRun : s.sprayInRun := ⟨fun issuing idle => by simp [idle, issuing] at running, follows⟩
    exact (operationsKeep_sprayInRun.step (fun _ _ h => h) e inRun).2
  · unfold step at e
    split at e
    · cases e
      exact ranged
    · next c rest _ =>
      exact exec_couplingRanged (s := { s with pending := rest }) banks ranged e

end Sys2Proof.Proofs
end

section
/-! SUPPORT. Fan-out part by part: what the offers do to each queue, how many of them take a reference, what becomes of
the slot, and what the arrival does to the controller of a port that holds a TAKE. Settled here: O22, O23. -/

namespace Sys2Proof.Machine

theorem mem_allPorts (q : Port) : q ∈ allPorts := by revert q; decide

theorem nodup_allPorts : allPorts.Nodup := by decide

/-! ## The offers (R141 to R143, R148, R150) -/

/-- Whether a port takes a reference to the record of a slot: it wants the record, and its queue has room. -/
def PortDist.took (d : PortDist) (seq : BitVec 32) (n : Nat) (r : Rec) : Bool := d.wants n r && (d.offer seq n).2

/-- What the Distribution Unit holds for a port after the record of a slot has been offered to it if it wants it. -/
def PortDist.offered (d : PortDist) (pool : Pool) (seq : BitVec 32) (n : Nat) (r : Rec) : PortDist :=
  if d.wants n r then
    { (d.offer seq n).1.consume n r with attention := attentionOf pool ((d.offer seq n).1.consume n r) }
  else d

section offers
variable (n : Nat) (seq : BitVec 32) (r : Rec)

theorem Hub.dist_offerTo (acc : Hub × Nat) (p q : Port) :
    (Hub.offerTo n seq r acc p).1.dist q =
      if q = p then (acc.1.dist p).offered acc.1.pool seq n r else acc.1.dist q := by
  unfold Hub.offerTo PortDist.offered
  split
  · rw [Hub.dist_putDist]
  · split
    · next e => rw [e]
    · rfl

theorem Hub.refs_offerTo (acc : Hub × Nat) (p : Port) :
    (Hub.offerTo n seq r acc p).2 = acc.2 + if (acc.1.dist p).took seq n r then 1 else 0 := by
  unfold Hub.offerTo PortDist.took
  cases (acc.1.dist p).wants n r with
  | false => rfl
  | true => cases ((acc.1.dist p).offer seq n).2 <;> rfl

/-- Every port of the list is offered the record once. -/
theorem Hub.dist_offers (q : Port) {l : List Port} (nodup : l.Nodup) (acc : Hub × Nat) :
    (l.foldl (Hub.offerTo n seq r) acc).1.dist q =
      if q ∈ l then (acc.1.dist q).offered acc.1.pool seq n r else acc.1.dist q := by
  induction l generalizing acc with
  | nil => rfl
  | cons p l ih =>
    obtain ⟨fresh, nodup⟩ := List.nodup_cons.1 nodup
    rw [List.foldl_cons, ih nodup, Hub.dist_offerTo, Hub.pool_offerTo]
    by_cases e : q = p
    · subst e
      simp [fresh]
    · simp [e]

/-- The references counted are those of the ports that took one. -/
theorem Hub.refs_offers {l : List Port} (nodup : l.Nodup) (acc : Hub × Nat) :
    (l.foldl (Hub.offerTo n seq r) acc).2 = acc.2 + l.countP (fun q => (acc.1.dist q).took seq n r) := by
  induction l generalizing acc with
  | nil => rfl
  | cons p l ih =>
    obtain ⟨fresh, nodup⟩ := List.nodup_cons.1 nodup
    have others : l.countP (fun q => ((Hub.offerTo n seq r acc p).1.dist q).took seq n r) =
        l.countP (fun q => (acc.1.dist q).took seq n r) :=
      List.countP_congr fun q hq => by
        have ne : q ≠ p := fun e => fresh (e ▸ hq)
        rw [Hub.dist_offerTo, if_neg ne]
    rw [List.foldl_cons, ih nodup, Hub.refs_offerTo, others, List.countP_cons]
    omega

end offers

/-! ## What an offer changes of a port -/

section offered
variable (d : PortDist) (pool : Pool) (seq : BitVec 32) (n : Nat) (r : Rec)

theorem PortDist.offered_of_not_wants {d : PortDist} {n : Nat} {r : Rec} (h : ¬ d.wants n r = true) (pool : Pool)
    (seq : BitVec 32) : d.offered pool seq n r = d := if_neg h

/-- An offer changes the queue and the gap (R142, R143). -/
theorem PortDist.offer_frame :
    (d.offer seq n).1 = { d with queue := (d.offer seq n).1.queue, gap := (d.offer seq n).1.gap } := by
  unfold PortDist.offer
  split
  · split <;> rfl
  · split <;> rfl

/-- The end of a bound snapshot entry changes that entry (R148). -/
theorem PortDist.consume_frame : d.consume n r = { d with snap := (d.consume n r).snap } := by
  unfold PortDist.consume
  split <;> rfl

theorem PortDist.queue_offered :
    (d.offered pool seq n r).queue = if d.wants n r then (d.offer seq n).1.queue else d.queue := by
  unfold PortDist.offered
  split
  · exact PortDist.queue_consume _ n r
  · rfl

theorem PortDist.gap_offered : (d.offered pool seq n r).gap = if d.wants n r then (d.offer seq n).1.gap else d.gap := by
  unfold PortDist.offered
  split
  · rw [PortDist.consume_frame]
  · rfl

theorem PortDist.attention_offered :
    (d.offered pool seq n r).attention =
      if d.wants n r then attentionOf pool (d.offered pool seq n r) else d.attention := by
  unfold PortDist.offered
  split <;> rfl

theorem PortDist.offered_frame :
    d.offered pool seq n r =
      { d with
        queue := (d.offered pool seq n r).queue
        gap := (d.offered pool seq n r).gap
        snap := (d.offered pool seq n r).snap
        attention := (d.offered pool seq n r).attention } := by
  unfold PortDist.offered
  split
  · rw [PortDist.consume_frame, PortDist.offer_frame]
  · rfl

/-- A snapshot entry is consumed when it is CLAIMED by the shot of the slot (R148). -/
theorem PortDist.snap_offered :
    (d.offered pool seq n r).snap = if (r.body.isShot && d.snap.boundTo n) = true then .none else d.snap := by
  have bound : (d.offer seq n).1.snap = d.snap := PortDist.snap_offer d seq n
  have consumed : ((d.offer seq n).1.consume n r).snap =
      if (r.body.isShot && d.snap.boundTo n) = true then .none else d.snap := by
    unfold PortDist.consume
    rw [bound]
    split
    · rfl
    · exact bound
  by_cases wants : d.wants n r = true
  · rw [PortDist.offered, if_pos wants]
    exact consumed
  · rw [PortDist.offered_of_not_wants wants, if_neg]
    intro claimed
    obtain ⟨shot, claimed⟩ := (Bool.and_eq_true _ _).mp claimed
    refine wants ?_
    unfold PortDist.wants
    cases body : r.body <;> simp_all [Body.isShot, Body.streamKey]

theorem Body.isShot_iff (b : Body) : b.isShot = true ↔ ∃ shot, b = .shot shot := by
  cases b <;> simp [Body.isShot]

theorem SnapEntry.boundTo_iff (e : SnapEntry) : e.boundTo n = true ↔ ∃ p, e = .claimed p n := by
  cases e <;> simp [SnapEntry.boundTo]

end offered

/-! ## An arrival at a port that holds a TAKE (R168, R170) -/

/-- The frame of the head entry of a queue, for a TAKE that has entries left to send (R168). -/
def PortDist.headFrame (d : PortDist) (pool : Pool) (t : TakeJob) : Option TxFrame :=
  if t.left = 0 then none
  else
    match d.queue with
    | [] => none
    | .ref n :: _ => pool.recordFrame t.tag n
    | .marker g :: _ => some (.gap t.tag g)

/-- A controller that sends the head entry of its queue, or END (R168). -/
def PortCtl.sendHead (c : PortCtl) (pool : Pool) (d : PortDist) (t : TakeJob) : PortCtl :=
  match d.headFrame pool t with
  | some f => { c with sending := some (.entry f) }
  | none => { c with take := none, sending := some (.answer (.endTake t.tag t.sent d.queue.length d.gap.isSome)) }

/-- A controller that chooses its next frame while it answers: what waits, else the head entry for its TAKE (R167,
R168). -/
def PortCtl.choose (c : PortCtl) (pool : Pool) (d : PortDist) : PortCtl :=
  match c.take with
  | some t => if c.sending = none ∧ c.refusals = [] ∧ c.answers = [] then c.sendHead pool d t else c.nextFrame
  | none => c.nextFrame

/-- The controller of a port after an arrival: one that holds a TAKE and has an entry ends the hold (R170). -/
def PortCtl.woken (c : PortCtl) (pool : Pool) (d : PortDist) : PortCtl :=
  if c.state = .heldTake ∧ d.queue ≠ [] then
    PortCtl.choose { c with state := .answering, heldTimer := none } pool d
  else c

theorem Hub.sendTake_eq {h : Hub} {p : Port} (filled : (h.dist p).queue ≠ []) (t : TakeJob) :
    h.sendTake p t = h.setCtl p ((h.ctl p).sendHead h.pool (h.dist p) t) := by
  unfold Hub.sendTake Hub.sendEnd PortCtl.sendHead PortDist.headFrame
  by_cases done : t.left = 0
  · simp only [if_pos done]
  · simp only [if_neg done]
    generalize (h.dist p).queue = queue at filled ⊢
    rcases queue with _ | ⟨n | g, rest⟩
    · exact absurd rfl filled
    · dsimp only
      cases h.pool.recordFrame t.tag n <;> rfl
    · rfl

/-- An ANSWERING port with an entry chooses its next frame: its controller alone changes. -/
theorem Hub.startNext_of_answering {h : Hub} {p : Port} (answering : (h.ctl p).state = .answering)
    (filled : (h.dist p).queue ≠ []) : h.startNext p = h.setCtl p ((h.ctl p).choose h.pool (h.dist p)) := by
  have self := h.setCtl_self p
  have head := Hub.sendTake_eq filled
  unfold Hub.startNext PortCtl.choose
  generalize h.ctl p = c at answering self head ⊢
  obtain ⟨state, rx, refusals, answers, take, sending, holdTime, timer⟩ := c
  cases answering
  cases sending with
  | some f => cases take <;> exact self.symm
  | none =>
    cases refusals with
    | cons f rest => cases take <;> rfl
    | nil =>
      cases answers with
      | cons f rest => cases take <;> rfl
      | nil =>
        cases take with
        | none => exact self.symm
        | some t => exact head t

/-- The arrival changes the controller alone. -/
theorem Hub.wake_eq (h : Hub) (p : Port) : h.wake p = h.setCtl p ((h.ctl p).woken h.pool (h.dist p)) := by
  unfold Hub.wake PortCtl.woken
  split
  · next held =>
    rw [Hub.startNext_of_answering (by simp) (by simpa using held.2), Hub.setCtl_setCtl, Hub.ctl_setCtl_self,
      Hub.pool_setCtl, Hub.dist_setCtl]
  · exact (Hub.setCtl_self h p).symm

@[simp] theorem Hub.dist_wake (h : Hub) (p q : Port) : (h.wake p).dist q = h.dist q := by
  rw [Hub.wake_eq, Hub.dist_setCtl]

@[simp] theorem Hub.dist_wakes (l : List Port) (h : Hub) (q : Port) : (l.foldl Hub.wake h).dist q = h.dist q := by
  induction l generalizing h with
  | nil => rfl
  | cons p l ih => rw [List.foldl_cons, ih, Hub.dist_wake]

/-- The arrival reaches the controller of every port of the list. -/
theorem Hub.ctl_wakes (q : Port) {l : List Port} (nodup : l.Nodup) (h : Hub) :
    (l.foldl Hub.wake h).ctl q = if q ∈ l then (h.ctl q).woken h.pool (h.dist q) else h.ctl q := by
  induction l generalizing h with
  | nil => rfl
  | cons p l ih =>
    obtain ⟨fresh, nodup⟩ := List.nodup_cons.1 nodup
    rw [List.foldl_cons, ih nodup, Hub.pool_wake, Hub.dist_wake, Hub.wake_eq, Hub.ctl_setCtl]
    by_cases e : q = p
    · subst e
      simp [fresh]
    · simp [e]

/-! ## Fan-out (R125) -/

/-- The pool once a record has its sequence number (R126). -/
def Hub.numbered (h : Hub) (n : Nat) (r : Rec) : Pool :=
  { h.pool.setContent n (.record (nextSeq h.pool.seq) r) with seq := nextSeq h.pool.seq }

/-- How many queues take a reference to a record at its fan-out. -/
def Hub.takers (h : Hub) (n : Nat) (r : Rec) : Nat :=
  allPorts.countP fun q => (h.dist q).took (nextSeq h.pool.seq) n r

section fanOut
variable (h : Hub) (n : Nat) (r : Rec)

theorem Hub.pool_fanOut_eq : (h.fanOut n r).pool = (h.numbered n r).finishFanOut n (h.takers n r) := by
  unfold Hub.fanOut
  simp only [Hub.pool_wakes, Hub.pool_withPool, Hub.pool_offers, Hub.refs_offers _ _ _ nodup_allPorts, Nat.zero_add]
  rfl

theorem Hub.dist_fanOut (q : Port) :
    (h.fanOut n r).dist q = (h.dist q).offered (h.numbered n r) (nextSeq h.pool.seq) n r := by
  unfold Hub.fanOut
  simp only [Hub.dist_wakes, Hub.dist_withPool, Hub.dist_offers _ _ _ _ nodup_allPorts, if_pos (mem_allPorts q)]
  rfl

theorem Hub.ctl_fanOut (q : Port) :
    (h.fanOut n r).ctl q = (h.ctl q).woken (h.fanOut n r).pool ((h.fanOut n r).dist q) := by
  rw [Hub.pool_fanOut_eq, Hub.dist_fanOut]
  unfold Hub.fanOut
  rw [Hub.ctl_wakes _ nodup_allPorts, if_pos (mem_allPorts q), Hub.ctl_withPool, Hub.ctl_offers, Hub.dist_withPool,
    Hub.dist_offers _ _ _ _ nodup_allPorts, if_pos (mem_allPorts q), Hub.pool_withPool, Hub.pool_offers,
    Hub.refs_offers _ _ _ nodup_allPorts, Nat.zero_add]
  rfl

end fanOut

/-! ## The pool after a fan-out -/

theorem Pool.setContent_frame (p : Pool) (n : Nat) (c : Content) :
    p.setContent n c = { p with slots := (p.setContent n c).slots } := by
  unfold Pool.setContent
  split <;> rfl

theorem Pool.finishFanOut_frame (p : Pool) (n refs : Nat) :
    p.finishFanOut n refs = { p with slots := (p.finishFanOut n refs).slots } := by
  unfold Pool.finishFanOut
  split
  · rfl
  · split <;> rfl

theorem Pool.slot_setContent {p : Pool} (w : p.wf = true) (n m : Nat) (c : Content) :
    (p.setContent n c).slot m = if m = n then (p.slot n).map (fun x => { x with content := c }) else p.slot m := by
  unfold Pool.setContent
  cases hx : p.slot n with
  | some x => exact Pool.slot_putSlot w n m _
  | none =>
    by_cases e : m = n
    · rw [if_pos e, e]; exact hx
    · rw [if_neg e]

theorem Pool.slot_finishFanOut {p : Pool} (w : p.wf = true) (n refs m : Nat) :
    (p.finishFanOut n refs).slot m =
      if m = n then
        if refs = 0 then none else (p.slot n).map (fun x => { x with phase := .queued, refs := refs })
      else p.slot m := by
  unfold Pool.finishFanOut
  by_cases unwanted : refs = 0
  · rw [if_pos unwanted, if_pos unwanted]
    exact Pool.slot_freeSlot w n m
  · rw [if_neg unwanted, if_neg unwanted]
    cases hx : p.slot n with
    | some x => exact Pool.slot_putSlot w n m _
    | none =>
      by_cases e : m = n
      · rw [if_pos e, e]; exact hx
      · rw [if_neg e]

section slots
variable {h : Hub} (w : h.pool.wf = true) (n : Nat) (r : Rec)
include w

theorem Hub.slot_numbered (m : Nat) :
    (h.numbered n r).slot m =
      if m = n then (h.pool.slot n).map (fun x => { x with content := .record (nextSeq h.pool.seq) r })
      else h.pool.slot m := Pool.slot_setContent w n m _

/-- The slot of the record is QUEUED with as many references as queues took one, or FREE when none did; the other slots
are as they were (R125). -/
theorem Hub.slot_fanOut (m : Nat) :
    (h.fanOut n r).pool.slot m =
      if m = n then
        if h.takers n r = 0 then none
        else (h.pool.slot n).map fun x =>
          { x with phase := .queued, refs := h.takers n r, content := .record (nextSeq h.pool.seq) r }
      else h.pool.slot m := by
  have numbered : (h.numbered n r).wf = true := Pool.wf_of_slots (Pool.wf_setContent w n _) rfl
  rw [Hub.pool_fanOut_eq, Pool.slot_finishFanOut numbered, Hub.slot_numbered w, Hub.slot_numbered w, if_pos rfl,
    Option.map_map]
  split <;> rfl

end slots

section frame
variable (h : Hub) (n : Nat) (r : Rec)

/-- Fan-out leaves the pending list and the losses counted as they are, and advances the sequence counter (R126). -/
theorem Hub.pool_fanOut_frame :
    (h.fanOut n r).pool = { h.pool with slots := (h.fanOut n r).pool.slots, seq := nextSeq h.pool.seq } := by
  rw [Hub.pool_fanOut_eq, Pool.finishFanOut_frame, Hub.numbered, Pool.setContent_frame]

@[simp] theorem Hub.seq_fanOut : (h.fanOut n r).pool.seq = nextSeq h.pool.seq := by rw [Hub.pool_fanOut_frame]

@[simp] theorem Hub.waiting_fanOut : (h.fanOut n r).pool.waiting = h.pool.waiting := by rw [Hub.pool_fanOut_frame]

@[simp] theorem Hub.lost_fanOut : (h.fanOut n r).pool.lost = h.pool.lost := by rw [Hub.pool_fanOut_frame]

end frame

/-- No number is 0: the counter goes from its largest value to 1 (R126). -/
theorem nextSeq_ne_zero (x : BitVec 32) : nextSeq x ≠ 0 := by
  unfold nextSeq
  split
  · decide
  · bv_omega

/-! ## The controller of a port that a fan-out reaches (R170) -/

section woken
variable {c : PortCtl} {pool : Pool} {d : PortDist}

theorem PortCtl.woken_of_not_held (h : c.state ≠ .heldTake ∨ d.queue = []) : c.woken pool d = c :=
  if_neg fun ⟨held, filled⟩ => h.elim (fun n => n held) filled

/-- A transmit side that is busy goes on; an idle one sends what waits (R167). -/
theorem PortCtl.woken_of_waiting (held : c.state = .heldTake) (filled : d.queue ≠ [])
    (waits : c.sending ≠ none ∨ c.refusals ≠ [] ∨ c.answers ≠ []) :
    c.woken pool d = PortCtl.nextFrame { c with state := .answering, heldTimer := none } := by
  rw [PortCtl.woken, if_pos ⟨held, filled⟩, PortCtl.choose]
  split
  · refine if_neg fun ⟨idle, noRefusal, noAnswer⟩ => ?_
    exact waits.elim (· idle) (Or.elim · (· noRefusal) (· noAnswer))
  · rfl

/-- With nothing that waits, an idle transmit side sends the head entry (R168). -/
theorem PortCtl.woken_of_idle (held : c.state = .heldTake) (filled : d.queue ≠ []) {t : TakeJob}
    (take : c.take = some t) (idle : c.sending = none ∧ c.refusals = [] ∧ c.answers = []) :
    c.woken pool d = PortCtl.sendHead { c with state := .answering, heldTimer := none } pool d t := by
  rw [PortCtl.woken, if_pos ⟨held, filled⟩, PortCtl.choose, take]
  exact if_pos idle

end woken

/-- A record taken by an empty queue without a gap is its only entry (R142). -/
theorem PortDist.offer_of_empty {d : PortDist} (empty : d.queue = []) (noGap : d.gap = none) (seq : BitVec 32)
    (n : Nat) : d.offer seq n = ({ d with queue := [.ref n] }, true) := by
  unfold PortDist.offer
  rw [noGap, empty]
  rfl

theorem Hub.takers_pos {h : Hub} {n : Nat} {r : Rec} {q : Port}
    (took : (h.dist q).took (nextSeq h.pool.seq) n r = true) : h.takers n r ≠ 0 :=
  (List.countP_pos_iff.2 ⟨q, mem_allPorts q, took⟩).ne'

/-- The record that ends a held TAKE is the frame sent, with the excerpt of its page (R170). -/
theorem Hub.ctl_fanOut_of_took {h : Hub} {n : Nat} {r : Rec} {x : Slot} {q : Port} {j : TakeJob}
    (w : h.pool.wf = true) (hx : h.pool.slot n = some x) (held : (h.ctl q).state = .heldTake)
    (take : (h.ctl q).take = some j) (left : j.left ≠ 0)
    (idle : (h.ctl q).sending = none ∧ (h.ctl q).refusals = [] ∧ (h.ctl q).answers = [])
    (empty : (h.dist q).queue = []) (noGap : (h.dist q).gap = none)
    (took : (h.dist q).took (nextSeq h.pool.seq) n r = true) :
    (h.fanOut n r).ctl q =
      { h.ctl q with
        state := .answering
        heldTimer := none
        sending := some (.entry (.record j.tag (nextSeq h.pool.seq) r (x.page.map (fun z => z.samples)))) } := by
  have wants : (h.dist q).wants n r = true := ((Bool.and_eq_true _ _).mp took).1
  have queue : ((h.fanOut n r).dist q).queue = [.ref n] := by
    rw [Hub.dist_fanOut, PortDist.queue_offered, if_pos wants, PortDist.offer_of_empty empty noGap]
  have slot := Hub.slot_fanOut w n r n
  rw [if_pos rfl, if_neg (Hub.takers_pos took), hx] at slot
  have head : ((h.fanOut n r).dist q).headFrame (h.fanOut n r).pool j =
      some (.record j.tag (nextSeq h.pool.seq) r (x.page.map (fun z => z.samples))) := by
    rw [PortDist.headFrame, if_neg left, queue]
    dsimp only
    rw [Pool.recordFrame, slot]
    rfl
  rw [Hub.ctl_fanOut, PortCtl.woken_of_idle held (by simp [queue]) take idle, PortCtl.sendHead, head]

end Sys2Proof.Machine

namespace Sys2Proof.Proofs
open Sys2Proof.Machine

/-- Settles O22: fan-out advances the counter, and the slot that keeps the record keeps it under the new number. -/
theorem sequenceNumbersSkipZero : Obligations.SequenceNumbersSkipZero := by
  refine ⟨rfl, fun x ne => if_neg ne, rfl, nextSeq_ne_zero, Hub.seq_fanOut, fun h n r x w after before => ?_⟩
  obtain ⟨y, hy⟩ := Option.ne_none_iff_exists'.1 before
  rw [Hub.slot_fanOut w, if_pos rfl, hy] at after
  split at after
  · cases after
  · cases after
    rfl

/-- Settles O23: the offers reach each port once, the slot counts the ports that took a reference, and the arrival ends
the hold of a port that has an entry. -/
theorem fanOutReachesEveryPortThatWants : Obligations.FanOutReachesEveryPortThatWants := by
  intro h n r x w hx
  refine ⟨fun q => ?_, fun q => ⟨fun away => ?_, fun held filled waits => ?_, ?_⟩, ?_, fun m hm => ?_,
    h.waiting_fanOut n r, h.lost_fanOut n r⟩
  · have claimed : (r.body.isShot && (h.dist q).snap.boundTo n) = true ↔
        (∃ shot, r.body = .shot shot) ∧ ∃ p, (h.dist q).snap = .claimed p n := by
      rw [Bool.and_eq_true, Body.isShot_iff, SnapEntry.boundTo_iff]
    dsimp only
    rw [Hub.dist_fanOut]
    exact ⟨PortDist.queue_offered _ _ _ _ _, PortDist.gap_offered _ _ _ _ _,
      fun shot bound => (PortDist.snap_offered _ _ _ _ _).trans (if_pos (claimed.2 ⟨shot, bound⟩)),
      fun free => (PortDist.snap_offered _ _ _ _ _).trans (if_neg fun c => free (claimed.1 c)),
      PortDist.attention_offered _ _ _ _ _, PortDist.offered_frame _ _ _ _ _⟩
  · rw [Hub.ctl_fanOut]
    exact PortCtl.woken_of_not_held away
  · rw [Hub.ctl_fanOut]
    exact PortCtl.woken_of_waiting held filled waits
  · intro j held take left sending refusals answers empty noGap took
    exact Hub.ctl_fanOut_of_took w hx held take left ⟨sending, refusals, answers⟩ empty noGap took
  · rw [Hub.slot_fanOut w, if_pos rfl, hx]
    rfl
  · rw [Hub.slot_fanOut w, if_neg hm]

end Sys2Proof.Proofs
end

section
/-! SUPPORT. The pending list: where a record other than a shot goes, what a release and the pending list do, and the
report of losses. Settled here: O24, O25. -/

namespace Sys2Proof.Machine

/-! ## A record handed to the pool (R124, R128) -/

theorem Hub.hand_of_free {h : Hub} {n : Nat} (nonePending : h.pool.waiting = []) (free : h.pool.firstFreeSlot = some n)
    (r : Rec) : h.hand r = h.place n r := by
  rw [Hub.hand, nonePending, free]

/-- With no slot FREE the record waits, or is lost. -/
theorem Hub.hand_of_full {h : Hub} (full : h.pool.firstFreeSlot = none) (r : Rec) :
    h.hand r =
      if h.pool.waiting.length < Config.pendingListDepth then
        h.withPool { h.pool with waiting := h.pool.waiting ++ [r] }
      else
        h.withPool { h.pool with lost := if h.pool.lost = 0xFFFFFFFF#32 then h.pool.lost else h.pool.lost + 1 } := by
  unfold Hub.hand
  split
  · next free => rw [full] at free; cases free
  · rfl

/-! ## The pending list offered a FREE slot (R127) -/

theorem Hub.drainUpTo_of_settled {h : Hub} (settled : h.pool.waiting = [] ∨ h.pool.firstFreeSlot = none) (fuel : Nat) :
    Hub.drainUpTo fuel h = h := by
  cases fuel with
  | zero => rfl
  | succ fuel =>
    unfold Hub.drainUpTo
    split
    · next waits free =>
      rw [waits, free] at settled
      simp at settled
    · rfl

/-- The oldest pending record takes the FREE slot, and the rest of the list is offered what is FREE then. -/
theorem Hub.drain_succ {h : Hub} {r : Rec} {rest : List Rec} {m : Nat} (waits : h.pool.waiting = r :: rest)
    (free : h.pool.firstFreeSlot = some m) :
    h.drain = ((h.withPool { h.pool with waiting := rest }).place m r).drain := by
  have shorter : ((h.withPool { h.pool with waiting := rest }).place m r).pool.waiting = rest := Hub.waiting_place _ m r
  unfold Hub.drain
  rw [shorter, waits, List.length_cons, Hub.drainUpTo, waits, free]

/-- The pending list is offered slots until it is empty or no slot is FREE. -/
theorem Hub.drain_settles (h : Hub) : h.drain.pool.waiting = [] ∨ h.drain.pool.firstFreeSlot = none := by
  generalize pending : h.pool.waiting = l
  induction l generalizing h with
  | nil =>
    rw [Hub.drain, Hub.drainUpTo_of_settled (.inl pending)]
    exact .inl pending
  | cons r rest ih =>
    cases free : h.pool.firstFreeSlot with
    | none =>
      rw [Hub.drain, Hub.drainUpTo_of_settled (.inr free)]
      exact .inr free
    | some m =>
      rw [Hub.drain_succ pending free]
      exact ih _ (Hub.waiting_place _ m r)

/-! ## A release (R121) -/

theorem Hub.releaseRef_of_last {h : Hub} {n : Nat} {x : Slot} (hx : h.pool.slot n = some x) (last : x.refs ≤ 1) :
    h.releaseRef n = (h.withPool (h.pool.freeSlot n)).drain := by
  simp only [Hub.releaseRef, hx, if_pos last]

theorem Hub.releaseRef_of_more {h : Hub} {n : Nat} {x : Slot} (hx : h.pool.slot n = some x) (more : ¬ x.refs ≤ 1) :
    h.releaseRef n = h.withPool (h.pool.putSlot n { x with refs := x.refs - 1 }) := by
  simp only [Hub.releaseRef, hx, if_neg more]

/-! ## The report of losses (R129) -/

theorem State.endPool_reports {s : State} {n : Nat} (nonePending : s.hub.pool.waiting = [])
    (losses : s.hub.pool.lost ≠ 0) (free : s.hub.pool.firstFreeSlot = some n) :
    s.endPool =
      s.withHub
        ((s.hub.withPool { s.hub.pool with lost := 0 }).place n (s.mkRec (.noticesLost s.hub.pool.lost))) := by
  rw [State.endPool, nonePending, free]
  exact if_neg losses

theorem State.endPool_silent {s : State}
    (h : s.hub.pool.waiting ≠ [] ∨ s.hub.pool.lost = 0 ∨ s.hub.pool.firstFreeSlot = none) : s.endPool = s := by
  unfold State.endPool
  split
  · next nonePending free =>
    rw [nonePending, free] at h
    exact if_pos (by simpa using h)
  · rfl

end Sys2Proof.Machine

namespace Sys2Proof.Proofs
open Sys2Proof.Machine

/-- Settles O24: the three roads of a record handed to the pool. -/
theorem recordsArePlacedPendedOrLost : Obligations.RecordsArePlacedPendedOrLost := by
  refine ⟨fun h r n => Hub.hand_of_free (r := r), fun h r full room => ?_, fun h r full packed => ?_⟩
  · exact (Hub.hand_of_full full r).trans (if_pos room)
  · have noRoom : ¬ h.pool.waiting.length < Config.pendingListDepth := by simp [packed, Config.pendingListDepth]
    rw [Hub.hand_of_full full, if_neg noRoom]
    by_cases most : h.pool.lost = 0xFFFFFFFF#32
    · simp only [most]
    · simp only [if_neg most]

/-- Settles O25: a release that is not the last lowers the count, the last one frees the slot; the pending list is
offered FREE slots one by one; the losses are reported when a slot is left. -/
theorem releasesFreeSlotsAndReportLosses : Obligations.ReleasesFreeSlotsAndReportLosses := by
  refine ⟨fun h n x hx more => Hub.releaseRef_of_more hx (by omega), fun h n x hx last nonePending => ?_,
    fun h n x r rest w hx last waits full => ?_, fun h settled => Hub.drainUpTo_of_settled settled _,
    fun h r rest m => Hub.drain_succ, fun s n => State.endPool_reports, fun s => State.endPool_silent⟩
  · rw [Hub.releaseRef_of_last hx last.le]
    exact Hub.drainUpTo_of_settled (h := h.withPool (h.pool.freeSlot n)) (.inl nonePending) _
  · rw [Hub.releaseRef_of_last hx last.le]
    exact Hub.drain_succ (h := h.withPool (h.pool.freeSlot n)) waits (Pool.firstFreeSlot_freeSlot _ w n x hx full)

end Sys2Proof.Proofs
end

section
/-! SUPPORT. What every command does to the records and the channels: a property of states that looks at the pool, the
ports and the capture channels alone is kept by every step if the operations on these keep it. First the operations of
the ports that leave the pool and the references of every queue as they are. -/

namespace Sys2Proof.Machine

/-! ## The attention line's condition (R150) -/

/-- The condition looks at the threshold, the queue and the gap, and at the contents of the slots referenced. -/
theorem attentionOf_congr {p q : Pool} {d e : PortDist} (threshold : e.threshold = d.threshold)
    (queue : e.queue = d.queue) (gap : e.gap = d.gap)
    (same : ∀ n, .ref n ∈ d.queue → (q.slot n).map Slot.content = (p.slot n).map Slot.content) :
    attentionOf q e = attentionOf p d := by
  have entries : d.queue.any (entryGeneral q) = d.queue.any (entryGeneral p) := by
    rw [Bool.eq_iff_iff, List.any_eq_true, List.any_eq_true]
    refine exists_congr fun entry => and_congr_right fun mem => ?_
    cases entry with
    | marker g => exact Iff.rfl
    | ref n =>
      have content := same n mem
      simp only [entryGeneral]
      cases hp : p.slot n with
      | none => rw [Option.map_eq_none_iff.1 (content.trans (by rw [hp]; rfl))]
      | some x =>
        rw [hp] at content
        obtain ⟨y, hq, hy⟩ := Option.map_eq_some_iff.1 content
        rw [hq]
        dsimp only
        rw [hy]
  unfold attentionOf
  rw [threshold, queue, gap, entries]

/-! ## Operations that leave every reference in its queue -/

/-- From `h` to `k` the pool stands, every queue keeps its references, and an attention line that stood at its condition
still does. -/
structure Hub.SameRecords (h k : Hub) : Prop where
  pool : k.pool = h.pool
  refs : ∀ q n, (k.dist q).queue.count (.ref n) = (h.dist q).queue.count (.ref n)
  lines : ∀ q, (h.dist q).attention = attentionOf h.pool (h.dist q) →
    (k.dist q).attention = attentionOf k.pool (k.dist q)

namespace Hub.SameRecords
variable {h k l : Hub}

theorem refl (h : Hub) : h.SameRecords h := ⟨rfl, fun _ _ => rfl, fun _ => id⟩

theorem trans (a : h.SameRecords k) (b : k.SameRecords l) : h.SameRecords l :=
  ⟨b.pool.trans a.pool, fun q n => (b.refs q n).trans (a.refs q n), fun q line => b.lines q (a.lines q line)⟩

theorem of_dist (pool : k.pool = h.pool) (dist : ∀ q, k.dist q = h.dist q) : h.SameRecords k :=
  ⟨pool, fun q n => by rw [dist], fun q line => by rw [dist, pool]; exact line⟩

theorem setCtl (h : Hub) (p : Port) (c : PortCtl) : h.SameRecords (h.setCtl p c) := .of_dist rfl (h.dist_setCtl p · c)

/-- What a line's condition does not look at may change. -/
theorem setDist {p : Port} {d : PortDist} (queue : d.queue = (h.dist p).queue) (gap : d.gap = (h.dist p).gap)
    (threshold : d.threshold = (h.dist p).threshold) (attention : d.attention = (h.dist p).attention) :
    h.SameRecords (h.setDist p d) := by
  have dist := fun q => h.dist_setDist p q d
  refine ⟨rfl, fun q n => ?_, fun q line => ?_⟩
  · rw [dist]
    split
    · next e => rw [queue, e]
    · rfl
  · rw [dist]
    split
    · next e =>
      rw [attention, ← e, line, Hub.pool_setDist]
      exact (attentionOf_congr (e ▸ threshold) (e ▸ queue) (e ▸ gap) fun _ _ => rfl).symm
    · exact line

theorem putDist {p : Port} {d : PortDist} (refs : ∀ n, d.queue.count (.ref n) = (h.dist p).queue.count (.ref n)) :
    h.SameRecords (h.putDist p d) := by
  have dist := fun q => h.dist_putDist p q d
  refine ⟨rfl, fun q n => ?_, fun q line => ?_⟩
  · rw [dist]
    split
    · next e => rw [e]; exact refs n
    · rfl
  · rw [dist]
    split
    · rfl
    · exact line

/-- A gap closed into a marker on an empty queue brings no reference (R144). -/
theorem sendTake (h : Hub) (p : Port) (t : TakeJob) : h.SameRecords (h.sendTake p t) := by
  unfold Hub.sendTake
  split
  · exact setCtl h p _
  · split
    · split <;> exact setCtl h p _
    · exact setCtl h p _
    · next empty =>
      split
      · refine .trans (putDist fun n => ?_) (setCtl _ p _)
        rw [empty]
        rfl
      · exact setCtl h p _

theorem startNext (h : Hub) (p : Port) : h.SameRecords (h.startNext p) := by
  unfold Hub.startNext
  split
  · exact .refl h
  · split
    · exact setCtl h p _
    · split
      · exact setCtl h p _
      · split
        · split
          · exact sendTake h p _
          · exact .refl h
        · exact .refl h

theorem refuse (h : Hub) (p : Port) (f : TxFrame) : h.SameRecords (h.refuse p f) := by
  unfold Hub.refuse
  split
  · exact (setCtl h p _).trans (startNext _ p)
  · exact .refl h

theorem answerFrame (h : Hub) (p : Port) (f : TxFrame) : h.SameRecords (h.answerFrame p f) :=
  (setCtl h p _).trans (startNext _ p)

theorem endHold (h : Hub) (p : Port) (x : PortState) : h.SameRecords (h.endHold p x) := by
  rw [Hub.endHold_eq]
  exact setCtl h p _

theorem answerSent (h : Hub) (p : Port) : h.SameRecords (h.answerSent p) := by
  unfold Hub.answerSent
  split <;> exact setCtl h p _

theorem configure (h : Hub) (p : Port) (hold threshold : Nat) : h.SameRecords (h.configure p hold threshold) :=
  (setCtl h p _).trans (putDist fun n => by rw [Hub.dist_setCtl])

theorem takeEntries (h : Hub) (p : Port) (tag count : Byte) : h.SameRecords (h.takeEntries p tag count) := by
  unfold Hub.takeEntries
  split
  · exact answerFrame h p _
  · split
    · split
      · exact answerFrame h p _
      · exact setCtl h p _
    · exact (setCtl h p _).trans (startNext _ p)

/-- Claims and returns of snapshot entries reach the snapshot entries alone (R147, R149). -/
theorem of_snaps (pool : k.pool = h.pool) (dist : ∀ q, k.dist q = { h.dist q with snap := (k.dist q).snap }) :
    h.SameRecords k := by
  have queue : ∀ q, (k.dist q).queue = (h.dist q).queue := fun q => by rw [dist]
  refine ⟨pool, fun q n => by rw [queue], fun q line => ?_⟩
  have attention : (k.dist q).attention = (h.dist q).attention := by rw [dist]
  rw [attention, line, pool]
  exact (attentionOf_congr (by rw [dist]) (queue q) (by rw [dist]) fun _ _ => rfl).symm

theorem sample (h : Hub) (present : PortSet) :
    h.SameRecords { h with ports := h.ports.mapIdx (fun i u => u.sample (present.getLsbD i)) } := by
  refine .of_dist rfl fun q => ?_
  simp only [Hub.dist, Fin.getElem_fin, Vector.getElem_mapIdx, PortUnit.sample]
  split <;> rfl

end Hub.SameRecords

/-! ## The channels through the walks and the steps -/

@[simp] theorem State.chans_enterRequesting (s : State) (r : Rail) (st : Step) (g : List BlockIx × Link) :
    (s.enterRequesting r st g).chans = s.chans := by cases r <;> rfl

@[simp] theorem State.chans_chainEnd (s : State) (r : Rail) : (s.chainEnd r).chans = s.chans := by
  unfold State.chainEnd State.enterWaiting
  split
  · simp
  · dsimp only
    split <;> simp

@[simp] theorem State.chans_walkOn (s : State) (r : Rail) : (s.walkOn r).chans = s.chans := by
  unfold State.walkOn
  split
  · rfl
  · split <;> simp

/-! ## Properties of the records -/

/-- What each item of a list keeps, the list keeps. -/
theorem foldl_keeps {α β : Type} {I : β → Prop} {f : β → α → β} (h : ∀ {s}, I s → ∀ x, I (f s x)) (l : List α) {s : β}
    (i : I s) : I (l.foldl f s) := by
  induction l generalizing s with
  | nil => exact i
  | cons x l ih => exact ih (h i x)

/-- While RESET is low nothing takes place (log 13). -/
theorem whileReleased_keeps (I : State → Prop) {f : State → State} (h : ∀ s, I s → I (f s)) {s : State} (i : I s)
    {t : State} (e : whileReleased f s = .next t) : I t := by
  cases e
  split
  · exact i
  · exact h s i

/-- A property of states that looks at the pool, the ports and the channels alone, and that each operation on these
keeps. -/
structure RecordsInvariant (I : State → Prop) : Prop where
  congr : ∀ {s t : State}, I s → t.hub = s.hub → t.chans = s.chans → I t
  reset : I State.reset
  ports : ∀ {s : State} {h : Hub}, s.hub.SameRecords h → I s → I (s.withHub h)
  chans : ∀ {s : State} (v : Vector Channel 3), (∀ c : Chan, v[c].phase = .listening → v[c] = s.chans[c]) → I s →
    I { s with chans := v }
  hand : ∀ {s : State} (r : Rec), I s → I (s.withHub (s.hub.hand r))
  endPool : ∀ {s : State}, I s → I s.endPool
  removeHead : ∀ {s : State} {p : Port} {e : Entry} {rest : List Entry}, (s.hub.dist p).queue = e :: rest → I s →
    I (s.withHub (s.hub.removeHead p e rest))
  resetPort : ∀ {s : State} (p : Port), I s → I (s.withHub (s.hub.resetPort p))
  grant : ∀ {s : State} (r : Rail) (st : Step), I s → I (s.grant r st)
  completeShot : ∀ {s : State} {c : Chan} {b : Binding} {x : Channel}, s.chans[c].phase = .listening →
    s.chans[c].binding = some b → x.phase ≠ .listening → ∀ e : Evaluator, I s →
    I ((s.setChan c x).completeShot b e)
  abortGroups : ∀ {s : State}, I s → I s.abortGroups

namespace RecordsInvariant
variable {I : State → Prop} (k : RecordsInvariant I) {s : State}
include k

theorem setSeq (r : Rail) (x : Sequencer) (i : I s) : I (s.setSeq r x) := k.congr i (by simp) (by simp)

theorem setCtl (p : Port) (c : PortCtl) (i : I s) : I (s.withHub (s.hub.setCtl p c)) := k.ports (.setCtl _ p c) i

theorem setChan (c : Chan) {x : Channel} (silent : x.phase ≠ .listening) (i : I s) : I (s.setChan c x) := by
  refine k.chans _ (fun d listening => ?_) i
  rw [getElem_set_fin] at listening ⊢
  split at listening
  · exact absurd listening silent
  · next other => exact if_neg other

/-! ## The rails -/

theorem handRecord (b : Body) (i : I s) : I (s.handRecord b) := k.hand _ i

theorem closeSkip (r : Rail) (i : I s) : I (s.closeSkip r) := by
  unfold State.closeSkip
  split
  · exact i
  · exact k.handRecord _ (k.setSeq r _ i)

theorem omission (r : Rail) (no : StepNo) (c : Coverage) (i : I s) : I (s.omission r no c) := by
  unfold State.omission
  split
  · exact k.setSeq r _ i
  · exact k.setSeq r _ (k.closeSkip r i)

theorem walkOn (r : Rail) (i : I s) : I (s.walkOn r) := k.congr i (s.hub_walkOn r) (s.chans_walkOn r)

theorem stepArrives (r : Rail) (st : Step) (i : I s) : I (s.stepArrives r st) := by
  unfold State.stepArrives
  split
  · exact i
  · exact k.walkOn r (k.setSeq r _ i)
  · split
    · exact k.setSeq r _ i
    · exact k.omission r _ _ i
  · split
    · exact k.setSeq r _ i
    · exact k.omission r _ _ i

theorem consider (r : Rail) (i : I s) : I (s.consider r).1 := by
  unfold State.consider
  split
  · split
    · split
      · exact k.grant r _ i
      · exact k.congr (k.setSeq r _ (k.omission r _ _ i)) rfl rfl
    · exact i
  · exact i

theorem afterRefusals (fuel : Nat) (l : List Rail) (i : I s) : I (State.afterRefusals fuel l s) := by
  induction fuel generalizing l s with
  | zero => unfold State.afterRefusals; exact i
  | succ fuel ih =>
    cases l with
    | nil => unfold State.afterRefusals; exact i
    | cons r rest =>
      unfold State.afterRefusals
      exact ih _ (k.consider r (k.walkOn r i))

theorem pass (i : I s) : I s.pass := by
  have first := k.consider s.higherRail i
  have both := k.consider s.higherRail.other first
  unfold State.pass
  dsimp only
  split
  · exact first
  · split
    · exact k.afterRefusals _ _ both
    · exact both
  · split
    · exact k.afterRefusals _ _ both
    · exact both
  · exact k.afterRefusals _ _ both

/-! ## Steps, swaps and the end of a run -/

theorem haltAtLimit (i : I s) : I s.haltAtLimit := by
  unfold State.haltAtLimit
  split
  · exact k.congr i rfl rfl
  · exact i

theorem issue (i : I s) : I s.issue := by
  have numbered : I { s with gen := { s.gen with stepNo := s.gen.stepNo + 1 } } := k.congr i rfl rfl
  have arrived := fun st => k.haltAtLimit (k.stepArrives .b st (k.stepArrives .a st numbered))
  unfold State.issue
  dsimp only
  split
  · exact k.pass (arrived _)
  · exact arrived _

theorem complete (i : I s) : I s.complete := by
  have off : I ((s.closeSkip .a).closeSkip .b).turnOff := k.congr (k.closeSkip .b (k.closeSkip .a i)) rfl rfl
  exact k.congr (k.handRecord _ off) rfl rfl

theorem completeIfDue (i : I s) : I s.completeIfDue := by
  unfold State.completeIfDue
  split
  · exact k.complete i
  · exact i

theorem issueReached (n : Nat) (i : I s) : I (State.issueReached n s) := by
  induction n generalizing s with
  | zero => exact i
  | succ n ih =>
    unfold State.issueReached
    split
    · exact ih (k.completeIfDue (k.issue (k.congr (t := s.advanceBoundary) i rfl rfl)))
    · exact i

theorem newPitch (i : I s) : I s.newPitch := by
  unfold State.newPitch
  split
  · exact i
  · exact k.congr i rfl rfl

theorem swap (i : I s) : I s.swap := by
  unfold State.swap
  split
  · next sig p _ _ =>
    have swapped : I (State.clearFired { s with plan := s.plan.swapped sig }) := k.congr i rfl rfl
    exact k.issueReached _ (k.newPitch (k.handRecord _ swapped))
  · exact i

theorem swapIfDue (i : I s) : I s.swapIfDue := by
  unfold State.swapIfDue
  split
  · exact k.swap i
  · exact i

theorem afterCycles (i : I s) : I s.afterCycles := by
  unfold State.afterCycles
  split
  · have counted : I { s with freeCount := s.freeCount + 1 } := k.congr i rfl rfl
    dsimp only
    split
    · exact k.completeIfDue (k.swap counted)
    · exact k.swapIfDue (k.complete counted)
  · exact k.swapIfDue (k.completeIfDue i)

/-! ## The events of the track -/

theorem genTick (plus : Bool) (i : I s) : I (s.genTick plus) := by
  by_cases off : s.gen.state = .off
  · rw [State.genTick_off off]
    exact i
  · obtain ⟨d, n, -, e⟩ := State.genTick_on off plus
    have followed : I (s.follow d n) := k.congr i rfl rfl
    rw [e]
    split
    · exact k.afterCycles (k.issue (k.congr (t := (s.follow d n).advanceBoundary) followed rfl rfl))
    · exact followed

theorem ticks (plus : Bool) (n : Nat) (i : I s) : I (State.ticks plus n s) := by
  induction n generalizing s with
  | zero => exact i
  | succ n ih =>
    rw [State.ticks, State.tick_eq]
    exact ih (k.genTick plus (k.congr (t := s.counted plus) i rfl rfl))

theorem count (plus : Bool) (i : I s) : I (s.count plus) := by
  have scaled : I { s with odo := { s.odo with rem := (s.odo.scale plus).2 } } := k.congr i rfl rfl
  exact k.congr (k.ticks plus _ scaled) rfl rfl

theorem transition (a b : Bool) (i : I s) : I (s.transition a b) := by
  have sampled : I { s with odo := { s.odo with lineA := a, lineB := b } } := k.congr i rfl rfl
  unfold State.transition
  dsimp only
  split
  · exact sampled
  · exact k.endPool (k.count true sampled)
  · exact k.endPool (k.count false sampled)
  · exact k.endPool (k.handRecord _ (k.congr sampled rfl rfl))

theorem markerChange (m : Marker) (level : Bool) (i : I s) : I (s.markerChange m level) := by
  unfold State.markerChange
  dsimp only
  split
  · exact k.endPool (k.handRecord _ (k.congr i rfl rfl))
  · exact k.congr i rfl rfl

theorem restartStepTimer (i : I s) : I s.restartStepTimer := by
  unfold State.restartStepTimer
  split
  · exact k.congr i rfl rfl
  · exact i

theorem timerExpiry (i : I s) : I s.timerExpiry := by
  unfold State.timerExpiry
  split
  · exact k.endPool (k.restartStepTimer (k.afterCycles (k.issue i)))
  · exact i

/-! ## The channels -/

/-- The channels of a rail released are FREE; the others stay. -/
theorem releaseRail (r : Rail) (i : I s) : I (s.releaseRail r) := by
  refine k.chans _ (fun c listening => ?_) i
  simp only [Fin.getElem_fin, Vector.getElem_map] at listening ⊢
  split at listening
  · cases listening
  · next other => exact if_neg other

theorem settleEnd (c : Chan) (i : I s) : I (s.settleEnd c) := by
  unfold State.settleEnd
  split
  · next b _ _ =>
    split
    · exact k.setChan c (by simp) i
    · have ended : I (s.groupOver b.rail) :=
        k.congr (k.releaseRail b.rail i) (State.hub_groupOver _ _) (State.chans_groupOver _ _)
      exact k.afterCycles (k.pass (k.walkOn b.rail ended))
  · exact i

theorem windowEnd (c : Chan) (first : Sample) (rest : List Sample) (i : I s) : I (s.windowEnd c first rest) := by
  unfold State.windowEnd
  split
  · next b listening binding =>
    have completed := fun (x : Channel) (silent : x.phase ≠ .listening) e => k.completeShot listening binding silent e i
    dsimp only
    split
    · exact k.settleEnd c (k.setSeq _ _ (completed _ (by simp) _))
    · exact k.setSeq _ _ (completed _ (by simp) _)
  · exact i

/-! ## The run and the holds -/

theorem startBy (limit : BitVec 24) (label : BitVec 16) (i : I s) : I (s.startBy limit label).1 := by
  unfold State.startBy
  split
  · exact k.endPool (k.handRecord _ (k.congr i rfl rfl))
  · exact i

theorem stopBy (i : I s) : I s.stopBy.1 := by
  unfold State.stopBy
  split
  · exact i
  · have closed := k.closeSkip .b (k.closeSkip .a (k.abortGroups i))
    have stopped : I s.stop := k.congr (k.handRecord _ closed) rfl rfl
    exact k.endPool (k.swapIfDue stopped)

theorem setHold (j : ProbeNo) (x : PortSet) (i : I s) : I (s.setHold j x) := k.congr i rfl rfl

theorem reform (j : ProbeNo) (i : I s) : I (s.reform j) := by
  obtain ⟨requesting, named⟩ | free := (s.seq (railOf j)).named_or_passesOver s.bank j
  · have reduced : I (s.reduced j) := k.congr i (State.hub_setSeq _ _ _) (State.chans_setSeq _ _ _)
    rw [State.reform_named requesting named]
    split
    · exact k.afterCycles (k.pass (k.walkOn _ reduced))
    · exact k.afterCycles (k.pass reduced)
  · rw [State.reform_unnamed free]
    exact i

theorem holdBy (p : Port) (probe : Byte) (i : I s) : I (s.holdBy p probe).1 := by
  unfold State.holdBy
  split
  · exact i
  · dsimp only
    unfold State.hold
    split
    · exact k.endPool (k.reform _ (k.handRecord _ (k.setHold _ _ i)))
    · exact k.setHold _ _ i

theorem unhold (p : Port) (j : ProbeNo) (i : I s) : I (s.unhold p j) := by
  unfold State.unhold
  split
  · dsimp only
    split
    · exact k.handRecord _ (k.setHold _ _ i)
    · exact k.setHold _ _ i
  · exact i

theorem unholdBy (p : Port) (probe : Byte) (i : I s) : I (s.unholdBy p probe).1 := by
  unfold State.unholdBy
  split
  · exact i
  · split
    · exact k.endPool (k.unhold p _ i)
    · exact i

/-! ## Requests -/

theorem receive (p : Port) (tag kind : Byte) {act : State → State} (h : ∀ {t : State}, I t → I (act t)) (i : I s) :
    I (s.receive p tag kind act) := by
  have cleared : I (s.clearRx p) := k.setCtl p _ i
  unfold State.receive
  split
  · exact i
  · exact k.ports (.refuse _ p _) cleared
  · exact h cleared
  · exact h (k.ports (.endHold _ p _) cleared)

theorem request (p : Port) (tag kind : Byte) {serve : State → State × Reply} (h : ∀ {t : State}, I t → I (serve t).1)
    (i : I s) : I (s.request p tag kind serve) :=
  k.receive p tag kind (fun j => k.ports (.answerFrame _ p _) (h j)) i

theorem rightRequest (p : Port) (tag kind : Byte) {body : State → State × Reply}
    (h : ∀ {t : State}, I t → I (body t).1) (i : I s) : I (s.request p tag kind fun t => t.withRight p body) := by
  refine k.request p tag kind (fun {t} j => ?_) i
  unfold State.withRight
  split
  · dsimp only
    split
    · exact k.congr (h j) rfl rfl
    · exact h j
  · exact j

theorem writeShadow (checks : List Bool) (edit : Bank → Bank) (i : I s) : I (s.writeShadow checks edit).1 := by
  unfold State.writeShadow
  split
  · split
    · exact i
    · exact k.congr i rfl rfl
  · exact i

theorem claim (p : Port) (i : I s) : I (s.claim p).1 := by
  unfold State.claim
  split
  · exact k.congr i rfl rfl
  · split
    · exact k.congr i rfl rfl
    · exact i

theorem releaseRight (p : Port) (i : I s) : I (s.releaseRight p).1 := by
  unfold State.releaseRight
  split
  · exact k.congr i rfl rfl
  · exact i

theorem commitBy (p : Port) (i : I s) : I (s.commitBy p).1 := by
  unfold State.commitBy
  split
  · split
    · exact i
    · exact k.endPool (k.afterCycles (k.congr i rfl rfl))
  · exact i

theorem abandonBy (i : I s) : I s.abandonBy.1 := by
  unfold State.abandonBy
  split
  · exact k.congr i rfl rfl
  · exact k.congr i rfl rfl
  · exact i

theorem setScalerBy (num den : BitVec 16) (i : I s) : I (s.setScalerBy num den).1 := by
  unfold State.setScalerBy
  split
  · split
    · exact i
    · exact k.congr i rfl rfl
  · exact i

theorem setMarkerBy (marker enabled edge : Byte) (lockout : BitVec 16) (action : Byte) (load : Pos) (i : I s) :
    I (s.setMarkerBy marker enabled edge lockout action load).1 := by
  unfold State.setMarkerBy
  split
  · exact i
  · exact k.congr i rfl rfl

/-- A snapshot entry set by a request is no part of a line's condition. -/
theorem setSnap (p : Port) (e : SnapEntry) (i : I s) : I (s.withHub (s.hub.setSnap p e)) :=
  k.ports (.setDist rfl rfl rfl rfl) i

theorem snapshotBy (p : Port) (probe : Byte) (i : I s) : I (s.snapshotBy p probe).1 := by
  unfold State.snapshotBy
  split
  · exact i
  · split
    · exact k.setSnap p _ i
    · exact k.setSnap p _ i
    · exact i

theorem doReadPlanEntry (p : Port) (tag role item index : Byte) (i : I s) :
    I (s.doReadPlanEntry p tag role item index) :=
  k.request p tag _ (fun j => by
    unfold State.readEntry
    split <;> exact j) i

theorem doConfigurePort (p : Port) (tag : Byte) (hold threshold : BitVec 16) (i : I s) :
    I (s.doConfigurePort p tag hold threshold) :=
  k.request p tag _ (fun j => by
    split
    · exact j
    · exact k.ports (.configure _ p _ _) j) i

theorem doSubscribe (p : Port) (tag entry matchVal mask enabled : Byte) (i : I s) :
    I (s.doSubscribe p tag entry matchVal mask enabled) :=
  k.request p tag _ (fun j => by
    split
    · exact j
    · exact k.ports (.setDist rfl rfl rfl rfl) j) i

theorem doGeneral (p : Port) (tag flag : Byte) (i : I s) : I (s.doGeneral p tag flag) :=
  k.request p tag _ (fun j => by
    split
    · exact j
    · exact k.ports (.setDist rfl rfl rfl rfl) j) i

theorem doTake (p : Port) (tag count : Byte) (i : I s) : I (s.doTake p tag count) :=
  k.receive p tag _ (fun j => k.ports (.takeEntries _ p tag count) j) i

theorem doUnknown (p : Port) (tag kind : Byte) (i : I s) : I (s.doUnknown p tag kind) := k.request p tag kind id i

/-- A complete frame acts as the request of its kind (R165, R166). -/
theorem handleFrame (p : Port) (tag kind : Byte) (payload : List Byte) (i : I s) :
    I (s.handleFrame p tag kind payload) :=
  State.handleFrame_cases (P := I) (s := s)
    (identify := k.request p tag _ id i)
    (readStatus := k.request p tag _ id i)
    (configurePort := fun _ _ => k.doConfigurePort p tag _ _ i)
    (subscribe := fun _ _ _ _ => k.doSubscribe p tag _ _ _ _ i)
    (general := fun _ => k.doGeneral p tag _ i)
    (take := fun _ => k.doTake p tag _ i)
    (snapshot := fun _ => k.request p tag _ (k.snapshotBy p _) i)
    (cancelSnapshot := k.request p tag _ (k.setSnap p .none) i)
    (readPlanEntry := fun _ _ _ => k.doReadPlanEntry p tag _ _ _ i)
    (claimEdit := k.request p tag _ (k.claim p) i)
    (startRun := fun _ _ => k.request p tag _ (k.startBy _ _) i)
    (stopRun := k.request p tag _ k.stopBy i)
    (holdProbe := fun _ => k.request p tag _ (k.holdBy p _) i)
    (releaseProbe := fun _ => k.request p tag _ (k.unholdBy p _) i)
    (releaseEdit := k.request p tag _ (k.releaseRight p) i)
    (writeStepSettings := fun _ _ _ _ _ _ => k.rightRequest p tag _ (k.writeShadow _ _) i)
    (writeProbe := fun _ _ _ _ _ _ _ _ => k.rightRequest p tag _ (k.writeShadow _ _) i)
    (writeGate := fun _ _ _ _ _ _ _ _ => k.rightRequest p tag _ (k.writeShadow _ _) i)
    (writeBlock := fun _ _ _ _ _ _ _ _ _ _ => k.rightRequest p tag _ (k.writeShadow _ _) i)
    (commit := k.rightRequest p tag _ (k.commitBy p) i)
    (abandon := k.rightRequest p tag _ k.abandonBy i)
    (setScaler := fun _ _ => k.rightRequest p tag _ (k.setScalerBy _ _) i)
    (setPosition := fun _ => k.rightRequest p tag _ (fun j => k.congr j rfl rfl) i)
    (setMarker := fun _ _ _ _ _ _ => k.rightRequest p tag _ (k.setMarkerBy _ _ _ _ _ _) i)
    (kind := kind) (unknown := k.doUnknown p tag kind i) (payload := payload)

/-! ## The receive side and the events of a port -/

theorem setRx (p : Port) (rx : List Byte) (i : I s) : I (s.setRx p rx) := k.setCtl p _ i

theorem framingError (p : Port) (i : I s) : I (s.framingError p) := k.ports (.refuse _ p _) (k.setRx p [] i)

theorem frameComplete (p : Port) (len : Byte) (body : List Byte) (i : I s) : I (s.frameComplete p len body) := by
  have handled := fun tag kind payload => k.handleFrame p tag kind payload (k.setRx p [] i)
  unfold State.frameComplete
  dsimp only
  split
  · split
    · split
      · split
        · exact handled _ _ _
        · exact k.framingError p i
      · exact handled _ _ _
    · exact k.framingError p i
  · exact k.framingError p i

theorem receiveChar (p : Port) (c : Byte) (i : I s) : I (s.receiveChar p c) := by
  unfold State.receiveChar
  split
  · split
    · exact k.setRx p _ i
    · exact i
  · split
    · exact k.setRx p _ i
    · exact k.framingError p i
  · split
    · exact k.setRx p _ i
    · exact k.frameComplete p _ _ i

theorem receiveChars (p : Port) (chars : List Byte) (i : I s) : I (s.receiveChars p chars) := by
  unfold State.receiveChars
  split
  · exact i
  · exact foldl_keeps (fun j c => k.receiveChar p c j) chars i

theorem gapTimeout (p : Port) (i : I s) : I (s.gapTimeout p) := by
  unfold State.gapTimeout
  split
  · exact i
  · exact k.framingError p i

theorem idleExpiry (i : I s) : I s.idleExpiry := by
  unfold State.idleExpiry
  split
  · exact k.congr i rfl rfl
  · exact i

theorem heldExpiry (p : Port) (i : I s) : I (s.heldExpiry p) := by
  unfold State.heldExpiry
  split
  · exact k.ports (.endHold _ p _) i
  · exact i

theorem presentRises (p : Port) (i : I s) : I (s.presentRises p) := by
  unfold State.presentRises
  split
  · exact k.setCtl p _ i
  · exact i

theorem dropRight (p : Port) (i : I s) : I (s.dropRight p) := by
  unfold State.dropRight
  split
  · exact k.congr i rfl rfl
  · exact i

theorem presentFalls (p : Port) (i : I s) : I (s.presentFalls p) := by
  unfold State.presentFalls
  split
  · exact i
  · exact k.endPool (k.dropRight p (foldl_keeps (fun j q => k.unhold p q j) _ (k.resetPort p i)))

theorem sent (p : Port) (i : I s) : I (s.sent p) := by
  unfold State.sent
  split
  · exact i
  · exact k.ports ((Hub.SameRecords.setCtl _ p _).trans (.startNext _ p)) i
  · exact k.ports ((Hub.SameRecords.answerSent _ p).trans (.startNext _ p)) i
  · split
    · exact k.ports ((Hub.SameRecords.setCtl _ p _).trans (.startNext _ p)) i
    · next filled => exact k.ports (.startNext _ p) (k.endPool (k.removeHead filled i))

/-! ## Commands -/

theorem resetRelease {encA encB m0 m1 : Bool} {present : PortSet} (i : I s) {t : State}
    (e : execResetRelease encA encB m0 m1 present s = .next t) : I t := by
  cases e
  split
  · exact k.congr (k.ports (.sample _ present) i) rfl rfl
  · exact i

/-- Every command keeps the property. -/
theorem exec {c : Instr} (i : I s) {t : State} (e : Machine.exec c s = .next t) : I t := by
  cases c with
  | hardwareReset => cases e; exact k.congr k.reset rfl rfl
  | resetRelease encA encB m0 m1 present => exact k.resetRelease i e
  | encoderTransition a b => exact whileReleased_keeps I (fun _ => k.transition a b) i e
  | speedWindowEnd => exact whileReleased_keeps I (f := State.speedWindow) (fun _ j => k.congr j rfl rfl) i e
  | markerEdge m level => exact whileReleased_keeps I (fun _ => k.markerChange m level) i e
  | stepTimerExpiry => exact whileReleased_keeps I (fun _ => k.timerExpiry) i e
  | channelWindowEnd c first rest => exact whileReleased_keeps I (fun _ j => k.endPool (k.windowEnd c first rest j)) i e
  | channelSettleEnd c => exact whileReleased_keeps I (fun _ j => k.endPool (k.settleEnd c j)) i e
  | shadowCopyCompletion =>
    exact whileReleased_keeps I (f := fun t => { t with plan := t.plan.copyDone }) (fun _ j => k.congr j rfl rfl) i e
  | editIdleTimerExpiry => exact whileReleased_keeps I (fun _ => k.idleExpiry) i e
  | heldTakeExpiry p => exact whileReleased_keeps I (fun _ => k.heldExpiry p) i e
  | presentAsserted p => exact whileReleased_keeps I (fun _ => k.presentRises p) i e
  | portReset p => exact whileReleased_keeps I (fun _ => k.presentFalls p) i e
  | frameError p chars => exact whileReleased_keeps I (fun _ => k.receiveChars p chars) i e
  | interCharacterGapTimeout p => exact whileReleased_keeps I (fun _ => k.gapTimeout p) i e
  | unknownRequest p tag kind =>
    refine whileReleased_keeps I (f := fun t => if knownKind kind then t else t.doUnknown p tag kind)
      (fun _ j => ?_) i e
    split
    · exact j
    · exact k.doUnknown p tag kind j
  | busyRefusal p tag kind =>
    refine whileReleased_keeps I
      (f := fun t => if (t.hub.ctl p).state = .answering then t.receive p tag kind (fun u => u) else t)
      (fun _ j => ?_) i e
    split
    · exact k.receive p tag kind id j
    · exact j
  | frameSent p => exact whileReleased_keeps I (fun _ => k.sent p) i e
  | identify p tag => exact whileReleased_keeps I (fun _ => k.request p tag _ id) i e
  | readStatus p tag => exact whileReleased_keeps I (fun _ => k.request p tag _ id) i e
  | configurePort p tag hold threshold =>
    exact whileReleased_keeps I (fun _ => k.doConfigurePort p tag hold threshold) i e
  | subscribe p tag entry matchVal mask enabled =>
    exact whileReleased_keeps I (fun _ => k.doSubscribe p tag entry matchVal mask enabled) i e
  | general p tag flag => exact whileReleased_keeps I (fun _ => k.doGeneral p tag flag) i e
  | take p tag count => exact whileReleased_keeps I (fun _ => k.doTake p tag count) i e
  | snapshot p tag probe => exact whileReleased_keeps I (fun _ => k.request p tag _ (k.snapshotBy p probe)) i e
  | cancelSnapshot p tag => exact whileReleased_keeps I (fun _ => k.request p tag _ (k.setSnap p .none)) i e
  | readPlanEntry p tag role item index =>
    exact whileReleased_keeps I (fun _ => k.doReadPlanEntry p tag role item index) i e
  | claimEdit p tag => exact whileReleased_keeps I (fun _ => k.request p tag _ (k.claim p)) i e
  | releaseEdit p tag => exact whileReleased_keeps I (fun _ => k.request p tag _ (k.releaseRight p)) i e
  | writeStepSettings p tag => exact whileReleased_keeps I (fun _ => k.rightRequest p tag _ (k.writeShadow _ _)) i e
  | writeProbe p tag => exact whileReleased_keeps I (fun _ => k.rightRequest p tag _ (k.writeShadow _ _)) i e
  | writeGate p tag => exact whileReleased_keeps I (fun _ => k.rightRequest p tag _ (k.writeShadow _ _)) i e
  | writeBlock p tag => exact whileReleased_keeps I (fun _ => k.rightRequest p tag _ (k.writeShadow _ _)) i e
  | commit p tag => exact whileReleased_keeps I (fun _ => k.rightRequest p tag _ (k.commitBy p)) i e
  | abandon p tag => exact whileReleased_keeps I (fun _ => k.rightRequest p tag _ k.abandonBy) i e
  | setScaler p tag num den => exact whileReleased_keeps I (fun _ => k.rightRequest p tag _ (k.setScalerBy num den)) i e
  | setPosition p tag position =>
    exact whileReleased_keeps I (fun _ => k.rightRequest p tag _ (fun j => k.congr j rfl rfl)) i e
  | setMarker p tag => exact whileReleased_keeps I (fun _ => k.rightRequest p tag _ (k.setMarkerBy _ _ _ _ _ _)) i e
  | startRun p tag limit label => exact whileReleased_keeps I (fun _ => k.request p tag _ (k.startBy limit label)) i e
  | stopRun p tag => exact whileReleased_keeps I (fun _ => k.request p tag _ k.stopBy) i e
  | holdProbe p tag probe => exact whileReleased_keeps I (fun _ => k.request p tag _ (k.holdBy p probe)) i e
  | releaseProbe p tag probe => exact whileReleased_keeps I (fun _ => k.request p tag _ (k.unholdBy p probe)) i e

/-- Every step keeps the property. -/
theorem step (i : I s) {t : State} (e : Machine.step s = .next t) : I t := by
  unfold Machine.step at e
  split at e
  · cases e; exact i
  · next c rest _ => exact k.exec (s := { s with pending := rest }) (k.congr i rfl rfl) e

end RecordsInvariant

end Sys2Proof.Machine
end

section
/-! SUPPORT. The sound pool: the pages attached to slots, that no slot is FREE while a record is pending, and that
every operation on the pool keeps both. Settled here: O58. -/

namespace Sys2Proof.Machine

/-! ## Pages and FREE slots -/

theorem Cells.pairwise_of_rising {α : Type} {lo : Nat} {l : List (Nat × α)} (h : Cells.risingFrom lo l = true) :
    (∀ c ∈ l, lo ≤ c.1) ∧ l.Pairwise (fun c d => c.1 < d.1) := by
  induction l generalizing lo with
  | nil => exact ⟨by simp, .nil⟩
  | cons c l ih =>
    obtain ⟨j, x⟩ := c
    simp only [Cells.risingFrom, Bool.and_eq_true, decide_eq_true_eq] at h
    obtain ⟨above, pairs⟩ := ih h.2
    refine ⟨List.forall_mem_cons.2 ⟨h.1, fun d hd => ?_⟩, List.pairwise_cons.2 ⟨fun d hd => above d hd, pairs⟩⟩
    have := above d hd
    omega

/-- Two slots have no page in common. -/
def pagesApart (c d : Nat × Slot) : Prop :=
  ∀ a, c.2.page.map (fun z => z.no) = some a → ∀ b, d.2.page.map (fun z => z.no) = some b → a ≠ b

theorem symm_pagesApart : Std.Symm pagesApart := ⟨fun _ _ h a ha b hb => (h b hb a ha).symm⟩

/-- No page is attached to two slots when no two slots have one page number. -/
theorem Pool.nodup_usedPages_iff {p : Pool} (w : p.wf = true) :
    p.usedPages.Nodup ↔ ∀ n m k, p.pageAt n = some k → p.pageAt m = some k → n = m := by
  have rising := ((Pool.wf_iff p).1 w).1
  have pairs := (Cells.pairwise_of_rising rising).2
  have pageAt : ∀ c ∈ p.slots, p.pageAt c.1 = c.2.page.map (fun z => z.no) := fun c hc => by
    rw [Pool.pageAt, Pool.slot, Cells.find_of_mem rising hc]
    rfl
  unfold Pool.usedPages
  rw [List.Nodup, List.pairwise_filterMap]
  constructor
  · intro distinct n m k hn hm
    obtain ⟨x, hx, pageX⟩ := Option.bind_eq_some_iff.1 hn
    obtain ⟨y, hy, pageY⟩ := Option.bind_eq_some_iff.1 hm
    by_contra ne
    have symm := symm_pagesApart
    have differ : pagesApart (n, x) (m, y) :=
      List.Pairwise.forall (R := pagesApart) distinct (Cells.mem_of_find hx) (Cells.mem_of_find hy) fun e =>
        ne (congrArg Prod.fst e)
    exact differ k pageX k pageY rfl
  · intro distinct
    refine pairs.imp_of_mem fun {c d} hc hd less a ha b hb same => ?_
    have := distinct c.1 d.1 a ((pageAt c hc).trans ha) ((pageAt d hd).trans (hb.trans (by rw [same])))
    omega

/-- No slot is FREE when each of the 1024 is taken. -/
theorem Pool.firstFreeSlot_eq_none_iff {p : Pool} (w : p.wf = true) :
    p.firstFreeSlot = none ↔ ∀ m < Config.slotCount, p.slot m ≠ none := by
  unfold Pool.firstFreeSlot
  constructor
  · intro full m hm
    split at full
    · cases full
    · exact Cells.find_below_firstFree 0 m p.slots (Nat.zero_le m) (by omega)
  · intro taken
    refine if_neg fun free => taken _ free ?_
    exact Cells.find_firstFree ((Pool.wf_iff p).1 w).1

theorem Pool.pageAt_freeSlot {p : Pool} (w : p.wf = true) (n m : Nat) :
    (p.freeSlot n).pageAt m = if m = n then none else p.pageAt m := by
  unfold Pool.pageAt
  rw [Pool.slot_freeSlot w]
  split <;> rfl

theorem Pool.firstFreePage_spec {p : Pool} {k : Nat} (h : p.firstFreePage = some k) :
    k < Config.pageCount ∧ k ∉ p.usedPages := by
  refine ⟨List.mem_range.1 (List.mem_of_find?_eq_some h), ?_⟩
  have unused := List.find?_some h
  simpa using unused

/-! ## The tidy pool (R119, R123) -/

/-- The pool is in its canonical form, its pending list within its depth, its pages among the 48, none attached to two
slots. -/
structure Pool.Tidy (p : Pool) : Prop where
  wf : p.wf = true
  fits : p.waiting.length ≤ Config.pendingListDepth
  distinct : ∀ n m k, p.pageAt n = some k → p.pageAt m = some k → n = m
  stored : ∀ n k, p.pageAt n = some k → k < Config.pageCount

/-- No slot is FREE while a record is pending (R127). -/
def Pool.Settled (p : Pool) : Prop := p.waiting = [] ∨ p.firstFreeSlot = none

theorem State.poolSound_iff (s : State) : s.poolSound ↔ s.hub.pool.Tidy ∧ s.hub.pool.Settled := by
  constructor
  · intro ⟨wf, fits, settled, nodup, stored⟩
    exact ⟨⟨wf, fits, (Pool.nodup_usedPages_iff wf).1 nodup,
      fun n k page => stored k ((Pool.mem_usedPages wf k).2 ⟨n, page⟩)⟩, settled⟩
  · intro ⟨⟨wf, fits, distinct, stored⟩, settled⟩
    refine ⟨wf, fits, settled, (Pool.nodup_usedPages_iff wf).2 distinct, fun k used => ?_⟩
    obtain ⟨n, page⟩ := (Pool.mem_usedPages wf k).1 used
    exact stored n k page

section tidy
variable {p q : Pool}

/-- A pool that has no page but where a tidy one has it, and no longer a pending list, is tidy. -/
theorem Pool.Tidy.of_pages (t : p.Tidy) (wf : q.wf = true) (fits : q.waiting.length ≤ p.waiting.length)
    (pages : ∀ m k, q.pageAt m = some k → p.pageAt m = some k) : q.Tidy :=
  ⟨wf, fits.trans t.fits, fun n m k hn hm => t.distinct n m k (pages n k hn) (pages m k hm),
    fun n k hn => t.stored n k (pages n k hn)⟩

theorem Pool.Tidy.freeSlot (t : p.Tidy) (n : Nat) : (p.freeSlot n).Tidy := by
  refine t.of_pages (Pool.wf_freeSlot t.wf n) (Nat.le_refl _) fun m k page => ?_
  rw [Pool.pageAt_freeSlot t.wf] at page
  split at page
  · cases page
  · exact page

/-- A slot written with a page that no other slot has. -/
theorem Pool.Tidy.putSlot (t : p.Tidy) {n : Nat} (hn : n < Config.slotCount) {x : Slot}
    (page : ∀ k, x.page.map (fun z => z.no) = some k → k < Config.pageCount ∧ ∀ m, p.pageAt m = some k → m = n) :
    (p.putSlot n x).Tidy := by
  have pageAt := Pool.pageAt_putSlot (x := x) t.wf n
  refine ⟨Pool.wf_putSlot t.wf hn x, t.fits, fun a b k ha hb => ?_, fun a k ha => ?_⟩
  · rw [pageAt] at ha hb
    split at ha <;> split at hb
    · next ea eb => rw [ea, eb]
    · next ea _ => rw [ea, (page k ha).2 b hb]
    · next _ eb => rw [eb, (page k hb).2 a ha]
    · exact t.distinct a b k ha hb
  · rw [pageAt] at ha
    split at ha
    · exact (page k ha).1
    · exact t.stored a k ha

/-- A slot written without a page. -/
theorem Pool.Tidy.putSlot_pageless (t : p.Tidy) {n : Nat} (hn : n < Config.slotCount) {x : Slot}
    (bare : x.page = none) : (p.putSlot n x).Tidy := t.putSlot hn fun k h => by rw [bare] at h; cases h

/-- A slot written again with the page it has. -/
theorem Pool.Tidy.putSlot_again (t : p.Tidy) {n : Nat} {x y : Slot} (hx : p.slot n = some x)
    (same : y.page.map (fun z => z.no) = x.page.map (fun z => z.no)) : (p.putSlot n y).Tidy := by
  have own : p.pageAt n = x.page.map (fun z => z.no) := by rw [Pool.pageAt, hx]; rfl
  refine t.putSlot (Pool.slot_lt t.wf hx) fun k page => ?_
  rw [same, ← own] at page
  exact ⟨t.stored n k page, fun m hm => t.distinct m n k hm page⟩

/-- A slot written leaves a settled pool settled. -/
theorem Pool.Settled.putSlot (settled : p.Settled) (w : p.wf = true) {n : Nat} (hn : n < Config.slotCount) (x : Slot) :
    (p.putSlot n x).Settled := by
  refine settled.imp id fun full => ?_
  rw [Pool.firstFreeSlot_eq_none_iff w] at full
  rw [Pool.firstFreeSlot_eq_none_iff (Pool.wf_putSlot w hn x)]
  intro m hm
  rw [Pool.slot_putSlot w]
  split
  · simp
  · exact full m hm

end tidy

/-! ## The road of a record (R124 to R129) -/

section road
variable {h : Hub}

theorem Hub.tidy_fanOut (t : h.pool.Tidy) (n : Nat) (r : Rec) : (h.fanOut n r).pool.Tidy := by
  refine t.of_pages (Hub.wf_fanOut t.wf n r) (by rw [Hub.waiting_fanOut]) fun m k page => ?_
  unfold Pool.pageAt at page ⊢
  rw [Hub.slot_fanOut t.wf] at page
  split at page
  · next e =>
    subst e
    split at page
    · cases page
    · cases slot : h.pool.slot m with
      | none => rw [slot] at page; cases page
      | some x => rw [slot] at page; exact page
  · exact page

theorem Hub.tidy_place (t : h.pool.Tidy) {n : Nat} (hn : n < Config.slotCount) (r : Rec) :
    (h.place n r).pool.Tidy :=
  Hub.tidy_fanOut (h := h.withPool (h.pool.putSlot n (Slot.assembling (.unnumbered r)))) (t.putSlot_pageless hn rfl) n r

/-- What every placing of the oldest pending record keeps holds once the pending list has been offered its slots. -/
theorem Hub.drain_induction {P : Hub → Prop}
    (place : ∀ (h : Hub) r rest m, h.pool.waiting = r :: rest → h.pool.firstFreeSlot = some m → P h →
      P ((h.withPool { h.pool with waiting := rest }).place m r)) {h : Hub} (start : P h) : P h.drain := by
  generalize pending : h.pool.waiting = l
  induction l generalizing h with
  | nil =>
    rw [Hub.drain, Hub.drainUpTo_of_settled (.inl pending)]
    exact start
  | cons r rest ih =>
    cases free : h.pool.firstFreeSlot with
    | none =>
      rw [Hub.drain, Hub.drainUpTo_of_settled (.inr free)]
      exact start
    | some m =>
      rw [Hub.drain_succ pending free]
      exact ih (place h r rest m pending free start) (Hub.waiting_place _ m r)

theorem Hub.tidy_drain (t : h.pool.Tidy) : h.drain.pool.Tidy := by
  refine Hub.drain_induction (P := fun h => h.pool.Tidy) (fun h r rest m pending free t => ?_) t
  have shorter : Pool.Tidy { h.pool with waiting := rest } :=
    t.of_pages (Pool.wf_of_slots t.wf rfl) (by simp [pending]) fun _ _ => id
  exact Hub.tidy_place (h := h.withPool _) shorter (Pool.firstFreeSlot_free t.wf free).2 r

/-- Once the pending list has been offered what is FREE, the pool is sound. -/
theorem Hub.sound_drain (t : h.pool.Tidy) : h.drain.pool.Tidy ∧ h.drain.pool.Settled :=
  ⟨Hub.tidy_drain t, h.drain_settles⟩

theorem Hub.sound_place (t : h.pool.Tidy) (nonePending : h.pool.waiting = []) {n : Nat}
    (free : h.pool.firstFreeSlot = some n) (r : Rec) : (h.place n r).pool.Tidy ∧ (h.place n r).pool.Settled :=
  ⟨Hub.tidy_place t (Pool.firstFreeSlot_free t.wf free).2 r, .inl ((Hub.waiting_place h n r).trans nonePending)⟩

theorem Hub.sound_hand (t : h.pool.Tidy) (settled : h.pool.Settled) (r : Rec) :
    (h.hand r).pool.Tidy ∧ (h.hand r).pool.Settled := by
  cases free : h.pool.firstFreeSlot with
  | some n =>
    have nonePending : h.pool.waiting = [] := settled.resolve_right (by rw [free]; simp)
    rw [Hub.hand_of_free nonePending free]
    exact Hub.sound_place t nonePending free r
  | none =>
    rw [Hub.hand_of_full free]
    split
    · next room =>
      have longer : (h.pool.waiting ++ [r]).length ≤ Config.pendingListDepth := by
        rw [List.length_append]
        exact room
      exact ⟨⟨t.wf, longer, t.distinct, t.stored⟩, .inr free⟩
    · exact ⟨⟨t.wf, t.fits, t.distinct, t.stored⟩, .inr free⟩

theorem Hub.sound_releaseEntry (t : h.pool.Tidy) (settled : h.pool.Settled) (e : Entry) :
    (h.releaseEntry e).pool.Tidy ∧ (h.releaseEntry e).pool.Settled := by
  cases e with
  | marker g => exact ⟨t, settled⟩
  | ref n =>
    show (h.releaseRef n).pool.Tidy ∧ (h.releaseRef n).pool.Settled
    cases hx : h.pool.slot n with
    | none => simpa only [Hub.releaseRef, hx] using And.intro t settled
    | some x =>
      by_cases last : x.refs ≤ 1
      · rw [Hub.releaseRef_of_last hx last]
        exact Hub.sound_drain (h := h.withPool _) (t.freeSlot n)
      · rw [Hub.releaseRef_of_more hx last]
        exact ⟨t.putSlot_again hx rfl, settled.putSlot t.wf (Pool.slot_lt t.wf hx) _⟩

end road

/-! ## Every operation keeps a sound pool -/

section sound
variable {s : State}

theorem State.poolSound_congr {t : State} (h : s.poolSound) (pool : t.hub.pool = s.hub.pool) : t.poolSound := by
  unfold State.poolSound
  rw [pool]
  exact h

theorem State.poolSound_withHub {h : Hub} (sound : h.pool.Tidy ∧ h.pool.Settled) : (s.withHub h).poolSound :=
  (State.poolSound_iff _).2 sound

theorem State.poolSound_hand (h : s.poolSound) (r : Rec) : (s.withHub (s.hub.hand r)).poolSound := by
  obtain ⟨tidy, settled⟩ := s.poolSound_iff.1 h
  exact State.poolSound_withHub (Hub.sound_hand tidy settled r)

theorem State.poolSound_endPool (h : s.poolSound) : s.endPool.poolSound := by
  obtain ⟨tidy, -⟩ := s.poolSound_iff.1 h
  by_cases silent : s.hub.pool.waiting ≠ [] ∨ s.hub.pool.lost = 0 ∨ s.hub.pool.firstFreeSlot = none
  · rw [State.endPool_silent silent]
    exact h
  · obtain ⟨nonePending, losses, free⟩ :
        s.hub.pool.waiting = [] ∧ s.hub.pool.lost ≠ 0 ∧ s.hub.pool.firstFreeSlot ≠ none := by
      simpa only [not_or, not_not] using silent
    obtain ⟨n, free⟩ := Option.ne_none_iff_exists'.1 free
    have reported : Pool.Tidy { s.hub.pool with lost := 0 } := ⟨tidy.wf, tidy.fits, tidy.distinct, tidy.stored⟩
    rw [State.endPool_reports nonePending losses free]
    exact State.poolSound_withHub (Hub.sound_place (h := s.hub.withPool _) reported nonePending free _)

theorem Hub.sound_releaseEntries {h : Hub} (t : h.pool.Tidy) (settled : h.pool.Settled) (l : List Entry) :
    (l.foldl Hub.releaseEntry h).pool.Tidy ∧ (l.foldl Hub.releaseEntry h).pool.Settled :=
  foldl_keeps (I := fun h : Hub => h.pool.Tidy ∧ h.pool.Settled)
    (fun ⟨t, settled⟩ e => Hub.sound_releaseEntry t settled e) l ⟨t, settled⟩

/-! ## The grant (R71, R122) -/

/-- Slots allocated without a page leave the pool sound, and are among the 1024. -/
theorem Pool.sound_allocate {p : Pool} (t : p.Tidy) (settled : p.Settled) (k : Nat) :
    (p.allocate k).1.Tidy ∧ (p.allocate k).1.Settled ∧ ∀ n ∈ (p.allocate k).2, n < Config.slotCount := by
  induction k generalizing p with
  | zero => exact ⟨t, settled, by simp [Pool.allocate]⟩
  | succ k ih =>
    cases free : p.firstFreeSlot with
    | none =>
      rw [Pool.allocate, free]
      exact ⟨t, settled, by simp⟩
    | some n =>
      have small := (Pool.firstFreeSlot_free t.wf free).2
      rw [Pool.allocate_succ k free]
      obtain ⟨tidy, settled, smalls⟩ :=
        ih (t.putSlot_pageless (x := blankSlot) small rfl) (settled.putSlot t.wf small _)
      exact ⟨tidy, settled, List.forall_mem_cons.2 ⟨small, smalls⟩⟩

/-- A shot takes a page that no slot has, or none (R108, R123). -/
theorem State.poolSound_fireShot (h : s.poolSound) (r : Rail) (st : Step) (joined : Bool) (i : BlockIx) (c : Chan)
    {n : Nat} (small : n < Config.slotCount) : (s.fireShot r st joined (s.planShot r i c n)).poolSound := by
  obtain ⟨tidy, settled⟩ := s.poolSound_iff.1 h
  rw [State.poolSound_iff, State.pool_fireShot]
  refine ⟨tidy.putSlot small fun k page => ?_, settled.putSlot tidy.wf small _⟩
  have planned : (s.planShot r i c n).page = some k := by
    simpa [State.shotSlot, Option.map_map, Function.comp_def] using page
  have found : s.hub.pool.firstFreePage = some k := by
    unfold State.planShot at planned
    dsimp only at planned
    split at planned
    · exact planned
    · cases planned
  obtain ⟨stored, unused⟩ := Pool.firstFreePage_spec found
  exact ⟨stored, fun m used => absurd ((Pool.mem_usedPages tidy.wf k).2 ⟨m, used⟩) unused⟩

theorem State.poolSound_fireShots (h : s.poolSound) (r : Rail) (st : Step) (joined : Bool) (is : List BlockIx)
    (cs : List Chan) (ns : List Nat) (small : ∀ n ∈ ns, n < Config.slotCount) :
    (State.fireShots s r st joined is cs ns).poolSound := by
  induction is generalizing s cs ns with
  | nil => exact h
  | cons i is ih =>
    cases cs with
    | nil => exact h
    | cons c cs =>
      cases ns with
      | nil => exact h
      | cons n ns =>
        obtain ⟨first, later⟩ := List.forall_mem_cons.1 small
        exact ih (State.poolSound_fireShot h r st joined i c first) cs ns later

theorem State.poolSound_grant (h : s.poolSound) (r : Rail) (st : Step) : (s.grant r st).poolSound := by
  obtain ⟨tidy, settled⟩ := s.poolSound_iff.1 h
  obtain ⟨tidy, settled, small⟩ := Pool.sound_allocate tidy settled (s.seq r).group.length
  have allocated : (s.withHub (s.hub.withPool (s.hub.pool.allocate (s.seq r).group.length).1)).poolSound :=
    State.poolSound_withHub ⟨tidy, settled⟩
  have prepared : (s.prepared r).poolSound := by
    unfold State.prepared
    rw [State.closeSkip_eq]
    obtain e | ⟨run, e⟩ := State.skipHanded_cases (s.withHub _) r (s.withHub _).hub
    · rw [e]
      exact State.poolSound_congr allocated rfl
    · rw [e]
      exact State.poolSound_congr (State.poolSound_hand allocated _) rfl
  have shot : (s.afterShots r st).poolSound := State.poolSound_fireShots prepared r st _ _ _ _ small
  exact State.poolSound_congr shot (congrArg Hub.pool (s.hub_grant r st))

/-! ## The end of a shot (R84, R109, R110) -/

theorem State.poolSound_couple (h : s.poolSound) (p : ProbeNo) (hit : Option Bool) (n : StepNo) :
    (s.couple p hit n).poolSound := by
  cases hit with
  | none => exact h
  | some hit =>
    rw [State.couple_some]
    split
    · exact State.poolSound_hand (s := s.setCoupling p (s.coupledEntry p hit)) h _
    · exact h

/-- A record placed in a slot leaves the other slots as they are. -/
theorem Hub.slot_place {h : Hub} (w : h.pool.wf = true) {m : Nat} (small : m < Config.slotCount) (r : Rec) {n : Nat}
    (ne : n ≠ m) : (h.place m r).pool.slot n = h.pool.slot n := by
  have after := Hub.slot_fanOut (h := h.withPool (h.pool.putSlot m (Slot.assembling (.unnumbered r))))
    (Pool.wf_putSlot w small _) m r n
  rw [if_neg ne] at after
  exact after.trans ((Pool.slot_putSlot w m n _).trans (if_neg ne))

/-- A record handed over leaves every slot that is taken as it is. -/
theorem Hub.slot_hand {h : Hub} (w : h.pool.wf = true) (r : Rec) {n : Nat} {x : Slot} (hx : h.pool.slot n = some x) :
    (h.hand r).pool.slot n = some x := by
  unfold Hub.hand
  split
  · next m _ free =>
    obtain ⟨empty, small⟩ := Pool.firstFreeSlot_free w free
    have ne : n ≠ m := by
      rintro rfl
      rw [hx] at empty
      cases empty
    rw [Hub.slot_place w small r ne]
    exact hx
  · split <;> exact hx

theorem State.slot_couple (w : s.hub.pool.wf = true) (p : ProbeNo) (hit : Option Bool) (no : StepNo) {n : Nat}
    {x : Slot} (hx : s.hub.pool.slot n = some x) : (s.couple p hit no).hub.pool.slot n = some x := by
  cases hit with
  | none => exact hx
  | some hit =>
    rw [State.couple_some]
    split
    · exact Hub.slot_hand w _ hx
    · exact hx

/-- A shot reported keeps its page, and one discarded gives it back; the slot freed is offered to the pending list. -/
theorem State.poolSound_completeShot (h : s.poolSound) (b : Binding) (e : Evaluator) :
    (s.completeShot b e).poolSound := by
  have wf : s.hub.pool.wf = true := h.1
  cases hx : s.hub.pool.slot b.slot with
  | none => simpa only [State.completeShot, hx] using h
  | some x =>
    cases content : x.content with
    | blank => simpa only [State.completeShot, hx, content] using h
    | unnumbered r => simpa only [State.completeShot, hx, content] using h
    | record seq r => simpa only [State.completeShot, hx, content] using h
    | shot g rule =>
      rw [State.completeShot_eq hx content]
      refine State.poolSound_withHub ?_
      obtain ⟨tidy, -⟩ := (State.poolSound_iff _).1 (State.poolSound_couple h b.probe (couplingHit e.results) g.stepNo)
      have stays := State.slot_couple wf b.probe (couplingHit e.results) g.stepNo hx
      unfold State.shotHub
      split
      · refine Hub.sound_drain (Hub.tidy_fanOut (h := Hub.withPool _ _) (tidy.putSlot_again stays ?_) _ _)
        simp [Option.map_map, Function.comp_def]
      · exact Hub.sound_drain (h := Hub.withPool _ _) (tidy.freeSlot b.slot)

theorem State.poolSound_abortGroups (h : s.poolSound) : s.abortGroups.poolSound := by
  obtain ⟨tidy, -⟩ := s.poolSound_iff.1 h
  have aborted : s.abortedHub.pool.Tidy := by
    unfold State.abortedHub
    rw [(Hub.abortShots_spec _ _).1]
    exact foldl_keeps (I := Pool.Tidy) (fun t n => t.freeSlot n) _ tidy
  unfold State.abortGroups
  rw [State.abortChans_eq s (by decide)]
  exact State.poolSound_withHub (s := { s with hub := s.hub }) (Hub.sound_drain aborted)

end sound

theorem recordsInvariant_poolSound : RecordsInvariant State.poolSound where
  congr h hub _ := State.poolSound_congr h (congrArg Hub.pool hub)
  reset := by
    refine ⟨rfl, Nat.zero_le _, .inl rfl, List.nodup_nil, fun n used => ?_⟩
    cases used
  ports same h := State.poolSound_congr h same.pool
  chans _ _ h := h
  hand r h := State.poolSound_hand h r
  endPool := State.poolSound_endPool
  removeHead := fun {s _ e _} _ h => by
    obtain ⟨tidy, settled⟩ := s.poolSound_iff.1 h
    refine State.poolSound_withHub ?_
    unfold Hub.removeHead
    exact Hub.sound_releaseEntry (h := Hub.putDist (Hub.setCtl _ _ _) _ _) tidy settled e
  resetPort := fun {s} p h => by
    obtain ⟨tidy, settled⟩ := s.poolSound_iff.1 h
    exact State.poolSound_withHub (Hub.sound_releaseEntries (h := s.hub.setPort p PortUnit.reset) tidy settled _)
  grant r st h := State.poolSound_grant h r st
  completeShot _ _ _ e h := State.poolSound_completeShot (s := State.setChan _ _ _) h _ e
  abortGroups := State.poolSound_abortGroups

end Sys2Proof.Machine

namespace Sys2Proof.Proofs
open Sys2Proof.Machine

/-- Settles O58: each operation on the pool keeps it tidy, and every operation that frees a slot offers it to the
pending list. -/
theorem stepsKeepThePoolSound : Obligations.StepsKeepThePoolSound :=
  fun _ _ sound e => recordsInvariant_poolSound.step sound e

end Sys2Proof.Proofs
end

section
/-! SUPPORT. The references to records: the account of a slot against the queues and the references not yet released,
kept by every operation on the road of a record. -/

namespace Sys2Proof.Machine

/-! ## Holders of a reference (R121, R141) -/

theorem Hub.holders_congr {h k : Hub} {n : Nat}
    (refs : ∀ q, (k.dist q).queue.count (.ref n) = (h.dist q).queue.count (.ref n)) : k.holders n = h.holders n :=
  List.countP_congr fun q _ => by
    rw [List.contains_iff_mem, List.contains_iff_mem, ← List.count_pos_iff, ← List.count_pos_iff, refs]

theorem Hub.not_mem_of_holders {h : Hub} {n : Nat} (none : h.holders n = 0) (q : Port) : .ref n ∉ (h.dist q).queue :=
  fun mem => List.countP_eq_zero.1 none q (mem_allPorts q) (List.contains_iff_mem.2 mem)

/-- Where no queue holds two references to a record, its holders are as many as the references. -/
theorem Hub.holders_eq_sum {h : Hub} {n : Nat} (once : ∀ q, (h.dist q).queue.count (.ref n) ≤ 1) :
    h.holders n = ∑ q : Port, (h.dist q).queue.count (.ref n) := by
  have each : ∀ q, (h.dist q).queue.count (.ref n) = if (h.dist q).queue.contains (.ref n) then 1 else 0 := fun q => by
    have most := once q
    have mem : (h.dist q).queue.contains (.ref n) = true ↔ 0 < (h.dist q).queue.count (.ref n) := by
      rw [List.contains_iff_mem, List.count_pos_iff]
    split
    · next c => have := mem.1 c; omega
    · next c => have := mt mem.2 c; omega
  rw [Finset.sum_congr rfl fun q _ => each q, Fin.sum_univ_four]
  simp only [Hub.holders, allPorts, List.countP_cons, List.countP_nil]
  omega

/-! ## The account of a slot -/

/-- A slot against the number of references to its record: none to a FREE or ASSEMBLING slot, as many as its count to a
QUEUED one, which holds a numbered record (R120, R121). -/
def slotCounts (x : Option Slot) (refs : Nat) : Prop :=
  match x with
  | none => refs = 0
  | some x =>
    match x.phase with
    | .assembling => x.refs = 0 ∧ refs = 0
    | .queued => x.refs = refs ∧ 1 ≤ x.refs ∧ ∃ seq r, x.content = .record seq r

theorem Hub.slotAgrees_iff (h : Hub) (n : Nat) : h.slotAgrees n ↔ slotCounts (h.pool.slot n) (h.holders n) := by
  unfold Hub.slotAgrees slotCounts
  cases h.pool.slot n with
  | none => exact Iff.rfl
  | some x => cases x.phase <;> exact Iff.rfl

theorem slotCounts_none (refs : Nat) : slotCounts none refs ↔ refs = 0 := Iff.rfl

theorem slotCounts_assembling {x : Slot} (assembling : x.phase = .assembling) (refs : Nat) :
    slotCounts (some x) refs ↔ x.refs = 0 ∧ refs = 0 := by
  simp only [slotCounts, assembling]

theorem slotCounts_queued {x : Slot} (queued : x.phase = .queued) (refs : Nat) :
    slotCounts (some x) refs ↔ x.refs = refs ∧ 1 ≤ x.refs ∧ ∃ seq r, x.content = .record seq r := by
  simp only [slotCounts, queued]

/-- A slot whose record is referenced is QUEUED. -/
theorem queued_of_slotCounts {x : Option Slot} {refs : Nat} (counts : slotCounts x refs) (referenced : 1 ≤ refs) :
    ∃ y, x = some y ∧ y.phase = .queued ∧ y.refs = refs ∧ ∃ seq r, y.content = .record seq r := by
  cases x with
  | none => rw [slotCounts_none] at counts; omega
  | some y =>
    cases phase : y.phase with
    | assembling => rw [slotCounts_assembling phase] at counts; omega
    | queued =>
      obtain ⟨refs, -, record⟩ := (slotCounts_queued phase _).1 counts
      exact ⟨y, rfl, phase, refs, record⟩

/-! ## The accounts of a hub -/

/-- Every slot's count is that of the references in the queues and of those of the entries `owed`, taken from a queue
and not yet released; the slots that `air` tells are ASSEMBLING; and, if `watched`, the attention lines stand at their
condition (R120, R121, R141, R150). -/
structure Hub.Accounts (watched : Prop) (air : Nat → Slot → Prop) (owed : List Entry) (h : Hub) : Prop where
  wf : h.pool.wf = true
  counts : ∀ n, slotCounts (h.pool.slot n) (h.holders n + owed.count (.ref n))
  once : ∀ q n, (h.dist q).queue.count (.ref n) ≤ 1
  shots : ∀ n x, air n x → h.pool.slot n = some x ∧ x.phase = .assembling
  lines : watched → ∀ q, (h.dist q).attention = attentionOf h.pool (h.dist q)

namespace Hub.Accounts
variable {watched : Prop} {air bir : Nat → Slot → Prop} {owed left : List Entry} {h k : Hub}

theorem mono (a : h.Accounts watched air owed) (fewer : ∀ n x, bir n x → air n x) : h.Accounts watched bir owed :=
  ⟨a.wf, a.counts, a.once, fun n x b => a.shots n x (fewer n x b), a.lines⟩

theorem sameRecords (a : h.Accounts watched air owed) (same : h.SameRecords k) : k.Accounts watched air owed := by
  refine ⟨by rw [same.pool]; exact a.wf, fun n => ?_, fun q n => ?_, fun n x hx => ?_, fun w q => ?_⟩
  · rw [same.pool, Hub.holders_congr (fun q => same.refs q n)]
    exact a.counts n
  · rw [same.refs]
    exact a.once q n
  · rw [same.pool]
    exact a.shots n x hx
  · exact same.lines q (a.lines w q)

/-- A FREE slot is no shot in the air. -/
theorem ground_of_free (a : h.Accounts watched air owed) {n : Nat} (free : h.pool.slot n = none) (x : Slot) :
    ¬ air n x := fun shot => by
  have taken := (a.shots n x shot).1
  rw [free] at taken
  cases taken

/-- One more ASSEMBLING slot held to its content. -/
theorem addShot (a : h.Accounts watched air owed) {n : Nat} {x : Slot} (hx : h.pool.slot n = some x)
    (assembling : x.phase = .assembling) :
    h.Accounts watched (fun m y => air m y ∨ m = n ∧ y = x) owed :=
  ⟨a.wf, a.counts, a.once,
    fun m y shot => shot.elim (a.shots m y) fun ⟨em, ey⟩ => by rw [em, ey]; exact ⟨hx, assembling⟩, a.lines⟩

/-- A FREE or ASSEMBLING slot is referenced by no queue and no entry owed. -/
theorem unreferenced (a : h.Accounts watched air owed) {n : Nat}
    (empty : ∀ x, h.pool.slot n = some x → x.phase = .assembling) : h.holders n = 0 ∧ owed.count (.ref n) = 0 := by
  have counts := a.counts n
  by_contra referenced
  obtain ⟨y, hy, queued, -⟩ := queued_of_slotCounts counts (by omega)
  rw [empty y hy] at queued
  cases queued

/-- One slot written: its account is right again, it is no shot in the air, and either no queue refers to it or its
content stays. -/
theorem writeSlot (a : h.Accounts watched air owed) {p : Pool} (wf : p.wf = true) {n : Nat}
    (others : ∀ m, m ≠ n → p.slot m = h.pool.slot m)
    (owedOthers : ∀ m, m ≠ n → left.count (.ref m) = owed.count (.ref m))
    (counts : slotCounts (p.slot n) (h.holders n + left.count (.ref n))) (ground : ∀ x, ¬ air n x)
    (content : h.holders n = 0 ∨ (p.slot n).map Slot.content = (h.pool.slot n).map Slot.content) :
    (h.withPool p).Accounts watched air left := by
  refine ⟨wf, fun m => ?_, a.once, fun m x hx => ?_, fun w q => ?_⟩
  · show slotCounts (p.slot m) (h.holders m + _)
    by_cases e : m = n
    · rw [e]
      exact counts
    · rw [others m e, owedOthers m e]
      exact a.counts m
  · have ne : m ≠ n := fun e => ground x (e ▸ hx)
    show p.slot m = some x ∧ _
    rw [others m ne]
    exact a.shots m x hx
  · refine (a.lines w q).trans (attentionOf_congr rfl rfl rfl fun m mem => ?_).symm
    by_cases e : m = n
    · subst e
      exact content.elim (fun none => absurd mem (Hub.not_mem_of_holders none q)) id
    · exact congrArg _ (others m e)

/-- A change of the pool that leaves its slots as they are. -/
theorem of_slots (a : h.Accounts watched air owed) {p : Pool} (same : p.slots = h.pool.slots) :
    (h.withPool p).Accounts watched air owed := by
  have slot : ∀ m, p.slot m = h.pool.slot m := fun m => by rw [Pool.slot, Pool.slot, same]
  refine ⟨Pool.wf_of_slots a.wf same, fun m => ?_, a.once, fun m x hx => ?_, fun w q => ?_⟩
  · show slotCounts (p.slot m) (h.holders m + _)
    rw [slot]
    exact a.counts m
  · show p.slot m = some x ∧ _
    rw [slot]
    exact a.shots m x hx
  · exact (a.lines w q).trans (attentionOf_congr rfl rfl rfl fun m _ => congrArg _ (slot m)).symm

/-- A slot that no queue refers to made ASSEMBLING, or written again while it is. -/
theorem putAssembling (a : h.Accounts watched air owed) {n : Nat} (small : n < Config.slotCount)
    (empty : ∀ x, h.pool.slot n = some x → x.phase = .assembling) (ground : ∀ x, ¬ air n x) {y : Slot}
    (assembling : y.phase = .assembling) (unused : y.refs = 0) :
    (h.withPool (h.pool.putSlot n y)).Accounts watched air owed := by
  obtain ⟨noHolder, noneOwed⟩ := a.unreferenced empty
  refine a.writeSlot (Pool.wf_putSlot a.wf small y)
    (fun m ne => (Pool.slot_putSlot a.wf n m y).trans (if_neg ne)) (fun _ _ => rfl) ?_ ground (.inl noHolder)
  rw [Pool.slot_putSlot a.wf, if_pos rfl, slotCounts_assembling assembling]
  exact ⟨unused, by rw [noHolder, noneOwed]⟩

/-- A slot freed with the last reference, or while it is ASSEMBLING. -/
theorem freeSlot (a : h.Accounts watched air owed) {n : Nat} (noHolder : h.holders n = 0)
    (noneLeft : left.count (.ref n) = 0) (owedOthers : ∀ m, m ≠ n → left.count (.ref m) = owed.count (.ref m))
    (ground : ∀ x, ¬ air n x) : (h.withPool (h.pool.freeSlot n)).Accounts watched air left := by
  refine a.writeSlot (Pool.wf_freeSlot a.wf n)
    (fun m ne => (Pool.slot_freeSlot a.wf n m).trans (if_neg ne)) owedOthers ?_ ground (.inl noHolder)
  rw [Pool.slot_freeSlot a.wf, if_pos rfl, slotCounts_none, noHolder, noneLeft]

end Hub.Accounts

/-! ## Fan-out keeps the accounts (R125, R141) -/

/-- An offer appends a reference to the record exactly when it tells so. -/
theorem PortDist.count_offer (d : PortDist) (seq : BitVec 32) (n m : Nat) :
    (d.offer seq n).1.queue.count (.ref m) =
      d.queue.count (.ref m) + if m = n ∧ (d.offer seq n).2 = true then 1 else 0 := by
  unfold PortDist.offer
  by_cases e : m = n
  · subst e
    split
    · split <;> simp
    · split <;> simp
  · have ne : n ≠ m := fun c => e c.symm
    split
    · split <;> simp [e, ne]
    · split <;> simp [e, ne]

theorem PortDist.count_offered (d : PortDist) (pool : Pool) (seq : BitVec 32) (n : Nat) (r : Rec) (m : Nat) :
    (d.offered pool seq n r).queue.count (.ref m) =
      d.queue.count (.ref m) + if m = n ∧ d.took seq n r = true then 1 else 0 := by
  rw [PortDist.queue_offered, PortDist.took]
  split
  · next wants => rw [PortDist.count_offer, wants, Bool.true_and]
  · next wants => simp [wants]

section fanOut
variable {h : Hub} (n : Nat) (r : Rec)

theorem Hub.count_fanOut (q : Port) (m : Nat) :
    ((h.fanOut n r).dist q).queue.count (.ref m) =
      (h.dist q).queue.count (.ref m) + if m = n ∧ (h.dist q).took (nextSeq h.pool.seq) n r = true then 1 else 0 := by
  rw [Hub.dist_fanOut, PortDist.count_offered]

theorem Hub.holders_fanOut_other {m : Nat} (ne : m ≠ n) : (h.fanOut n r).holders m = h.holders m :=
  Hub.holders_congr fun q => by rw [Hub.count_fanOut, if_neg fun c => ne c.1, Nat.add_zero]

/-- The record's holders are the ports that took a reference. -/
theorem Hub.holders_fanOut_self (none : h.holders n = 0) : (h.fanOut n r).holders n = h.takers n r :=
  List.countP_congr fun q _ => by
    have absent : (h.dist q).queue.count (.ref n) = 0 := List.count_eq_zero.2 (Hub.not_mem_of_holders none q)
    rw [List.contains_iff_mem, ← List.count_pos_iff, Hub.count_fanOut, absent]
    by_cases took : (h.dist q).took (nextSeq h.pool.seq) n r = true <;> simp [took]

/-- The attention lines stand at their condition after the fan-out of a record that no queue referred to. -/
theorem Hub.line_fanOut (w : h.pool.wf = true) (none : h.holders n = 0) (q : Port)
    (line : (h.dist q).attention = attentionOf h.pool (h.dist q)) :
    ((h.fanOut n r).dist q).attention = attentionOf (h.fanOut n r).pool ((h.fanOut n r).dist q) := by
  have absent := Hub.not_mem_of_holders none q
  have slot := Hub.slot_fanOut w n r
  by_cases wants : (h.dist q).wants n r = true
  · have asked : ((h.fanOut n r).dist q).attention = attentionOf (h.numbered n r) ((h.fanOut n r).dist q) := by
      rw [Hub.dist_fanOut, PortDist.attention_offered, if_pos wants]
    refine asked.trans (attentionOf_congr rfl rfl rfl fun m mem => ?_).symm
    rw [slot, Hub.slot_numbered w]
    by_cases e : m = n
    · subst e
      have took : (h.dist q).took (nextSeq h.pool.seq) m r = true := by
        by_contra refused
        rw [← List.count_pos_iff, Hub.count_fanOut, List.count_eq_zero.2 absent, if_neg fun c => refused c.2] at mem
        exact absurd mem (lt_irrefl 0)
      rw [if_pos rfl, if_pos rfl, if_neg (Hub.takers_pos took)]
      cases h.pool.slot m <;> rfl
    · rw [if_neg e, if_neg e]
  · have same : (h.fanOut n r).dist q = h.dist q := by rw [Hub.dist_fanOut, PortDist.offered_of_not_wants wants]
    rw [same]
    refine line.trans (attentionOf_congr rfl rfl rfl fun m mem => ?_).symm
    rw [slot, if_neg fun e : m = n => absent (e ▸ mem)]

end fanOut

namespace Hub.Accounts
variable {watched : Prop} {air : Nat → Slot → Prop} {owed : List Entry} {h : Hub}

/-- The fan-out of the record of an ASSEMBLING slot that is no shot in the air. -/
theorem fanOut (a : h.Accounts watched air owed) {n : Nat} {x : Slot} (hx : h.pool.slot n = some x)
    (assembling : x.phase = .assembling) (ground : ∀ y, ¬ air n y) (r : Rec) :
    (h.fanOut n r).Accounts watched air owed := by
  obtain ⟨noHolder, noneOwed⟩ := a.unreferenced (n := n) fun y hy => by
    rw [hx] at hy
    exact Option.some.inj hy ▸ assembling
  have slot := Hub.slot_fanOut a.wf n r
  refine ⟨Hub.wf_fanOut a.wf n r, fun m => ?_, fun q m => ?_, fun m y hy => ?_,
    fun w q => Hub.line_fanOut n r a.wf noHolder q (a.lines w q)⟩
  · rw [slot]
    by_cases e : m = n
    · subst e
      rw [if_pos rfl, Hub.holders_fanOut_self m r noHolder, noneOwed, hx]
      split
      · next unwanted => exact unwanted
      · next taken => exact ⟨rfl, Nat.one_le_iff_ne_zero.2 taken, _, _, rfl⟩
    · rw [if_neg e, Hub.holders_fanOut_other n r e]
      exact a.counts m
  · have absent : (h.dist q).queue.count (.ref n) = 0 := List.count_eq_zero.2 (Hub.not_mem_of_holders noHolder q)
    have once := a.once q m
    rw [Hub.count_fanOut]
    split
    · next c => rw [c.1, absent]
    · exact once
  · rw [slot, if_neg fun e : m = n => ground y (e ▸ hy)]
    exact a.shots m y hy

theorem place (a : h.Accounts watched air owed) {n : Nat} (small : n < Config.slotCount) (free : h.pool.slot n = none)
    (r : Rec) : (h.place n r).Accounts watched air owed := by
  have ground := a.ground_of_free free
  have assembling := a.putAssembling small (by simp [free]) ground (y := Slot.assembling (.unnumbered r)) rfl rfl
  exact assembling.fanOut ((Pool.slot_putSlot a.wf n n _).trans (if_pos rfl)) rfl ground r

theorem drain (a : h.Accounts watched air owed) : h.drain.Accounts watched air owed := by
  refine Hub.drain_induction (P := Hub.Accounts watched air owed) (fun h r rest m _ free a => ?_) a
  obtain ⟨free, small⟩ := Pool.firstFreeSlot_free a.wf free
  exact (a.of_slots (p := { h.pool with waiting := rest }) rfl).place small free r

theorem hand (a : h.Accounts watched air owed) (r : Rec) : (h.hand r).Accounts watched air owed := by
  unfold Hub.hand
  split
  · next n _ free =>
    obtain ⟨free, small⟩ := Pool.firstFreeSlot_free a.wf free
    exact a.place small free r
  · split <;> exact a.of_slots rfl

/-- The release of an entry owed: a reference's slot counts one less, and is FREE with the last (R121). -/
theorem releaseEntry {e : Entry} (a : h.Accounts watched air (e :: owed)) :
    (h.releaseEntry e).Accounts watched air owed := by
  cases e with
  | marker g =>
    refine ⟨a.wf, fun n => ?_, a.once, a.shots, a.lines⟩
    have counts := a.counts n
    rwa [List.count_cons_of_ne (by simp)] at counts
  | ref n =>
    show (h.releaseRef n).Accounts watched air owed
    have counts := a.counts n
    rw [List.count_cons_self] at counts
    obtain ⟨x, hx, queued, refs, record⟩ := queued_of_slotCounts counts (by omega)
    have others : ∀ m, m ≠ n → owed.count (.ref m) = (Entry.ref n :: owed).count (.ref m) := fun m ne =>
      (List.count_cons_of_ne (by simpa using ne.symm)).symm
    have ground : ∀ y, ¬ air n y := fun y hy => by
      obtain ⟨slot, assembling⟩ := a.shots n y hy
      rw [hx] at slot
      cases slot
      rw [queued] at assembling
      cases assembling
    by_cases last : x.refs ≤ 1
    · rw [Hub.releaseRef_of_last hx last]
      exact (a.freeSlot (by omega) (by omega) others ground).drain
    · rw [Hub.releaseRef_of_more hx last]
      have slot := Pool.slot_putSlot a.wf n (x := { x with refs := x.refs - 1 })
      refine a.writeSlot (Pool.wf_putSlot a.wf (Pool.slot_lt a.wf hx) _) (fun m ne => (slot m).trans (if_neg ne)) others
        ?_ ground (.inr ?_)
      · have lower : x.refs - 1 = h.holders n + owed.count (.ref n) := by omega
        rw [slot, if_pos rfl]
        exact (slotCounts_queued (x := { x with refs := x.refs - 1 }) queued _).2
          ⟨lower, Nat.le_sub_of_add_le (by omega), record⟩
      · rw [slot, if_pos rfl, hx]
        rfl

theorem releaseEntries (l : List Entry) (a : h.Accounts watched air l) :
    (l.foldl Hub.releaseEntry h).Accounts watched air [] := by
  induction l generalizing h with
  | nil => exact a
  | cons e l ih => exact ih a.releaseEntry

/-- References taken from one queue are owed (R145, R151). -/
theorem takeOut {k : Hub} (a : h.Accounts watched air []) {p : Port} {l : List Entry} (pool : k.pool = h.pool)
    (others : ∀ q, q ≠ p → k.dist q = h.dist q)
    (taken : ∀ n, (k.dist p).queue.count (.ref n) + l.count (.ref n) = (h.dist p).queue.count (.ref n))
    (line : (k.dist p).attention = attentionOf h.pool (k.dist p)) : k.Accounts watched air l := by
  have once : ∀ q n, (k.dist q).queue.count (.ref n) ≤ 1 := fun q n => by
    have before := a.once q n
    by_cases e : q = p
    · subst e
      have := taken n
      omega
    · rw [others q e]
      exact before
  have holders : ∀ n, k.holders n + l.count (.ref n) = h.holders n := fun n => by
    have rest : ∑ q ∈ Finset.univ.erase p, (k.dist q).queue.count (.ref n) =
        ∑ q ∈ Finset.univ.erase p, (h.dist q).queue.count (.ref n) :=
      Finset.sum_congr rfl fun q hq => by rw [others q (Finset.ne_of_mem_erase hq)]
    have atPort := taken n
    rw [Hub.holders_eq_sum (fun q => once q n), Hub.holders_eq_sum (fun q => a.once q n),
      ← Finset.add_sum_erase _ _ (Finset.mem_univ p), ← Finset.add_sum_erase _ _ (Finset.mem_univ p), rest]
    omega
  refine ⟨by rw [pool]; exact a.wf, fun n => ?_, once, fun n x hx => ?_, fun w q => ?_⟩
  · rw [pool, holders]
    exact a.counts n
  · rw [pool]
    exact a.shots n x hx
  · rw [pool]
    by_cases e : q = p
    · rw [e]
      exact line
    · rw [others q e]
      exact a.lines w q

/-- The head entry leaves the queue, and its reference is released (R145). -/
theorem removeHead (a : h.Accounts watched air []) {p : Port} {e : Entry} {rest : List Entry}
    (queue : (h.dist p).queue = e :: rest) : (h.removeHead p e rest).Accounts watched air [] := by
  unfold Hub.removeHead
  refine releaseEntry (takeOut (p := p) a rfl (fun q ne => ?_) (fun n => ?_) ?_)
  · rw [Hub.dist_putDist, if_neg ne, Hub.dist_setCtl]
  · rw [Hub.dist_putDist, if_pos rfl, queue]
    simp only [List.count_cons, List.count_nil, Nat.zero_add]
  · rw [Hub.dist_putDist, if_pos rfl]
    rfl

/-- The references of a port that is reset are released (R151, R171). -/
theorem resetPort (a : h.Accounts watched air []) (p : Port) : (h.resetPort p).Accounts watched air [] := by
  have dist : ∀ q, (h.setPort p PortUnit.reset).dist q = if q = p then PortDist.reset else h.dist q := fun q => by
    unfold Hub.dist
    rw [Hub.ports_setPort]
    split <;> rfl
  refine releaseEntries _ (takeOut (p := p) a rfl (fun q ne => by rw [dist, if_neg ne]) (fun n => ?_) ?_)
  · rw [dist, if_pos rfl]
    exact Nat.zero_add _
  · rw [dist, if_pos rfl]
    rfl

/-- Slots allocated are distinct, FREE before, and stay as they are taken (R122). -/
theorem allocate (a : h.Accounts watched air owed) (k : Nat) :
    (h.pool.allocate k).2.Nodup ∧ (∀ n ∈ (h.pool.allocate k).2, h.pool.slot n = none) ∧
      (h.withPool (h.pool.allocate k).1).Accounts watched
        (fun n x => air n x ∨ n ∈ (h.pool.allocate k).2 ∧ x = blankSlot) owed := by
  induction k generalizing h air with
  | zero =>
    exact ⟨List.nodup_nil, by simp [Pool.allocate],
      a.mono fun n x hx => hx.resolve_right (by simp [Pool.allocate])⟩
  | succ k ih =>
    cases free : h.pool.firstFreeSlot with
    | none =>
      rw [Pool.allocate, free]
      exact ⟨List.nodup_nil, by simp, a.mono fun n x hx => hx.resolve_right (by simp)⟩
    | some n =>
      obtain ⟨empty, small⟩ := Pool.firstFreeSlot_free a.wf free
      have slot := Pool.slot_putSlot a.wf n (x := blankSlot)
      have own := (slot n).trans (if_pos rfl)
      have taken := a.putAssembling small (by simp [empty]) (a.ground_of_free empty) (y := blankSlot) rfl rfl
      obtain ⟨nodup, frees, after⟩ := ih (taken.addShot own rfl)
      have fresh : ∀ m ∈ ((h.pool.putSlot n blankSlot).allocate k).2, m ≠ n := by
        rintro m hm rfl
        have free := frees m hm
        rw [Hub.pool_withPool, own] at free
        cases free
      rw [Pool.allocate_succ k free]
      refine ⟨List.nodup_cons.2 ⟨fun hn => fresh n hn rfl, nodup⟩,
        List.forall_mem_cons.2 ⟨empty, fun m hm => ?_⟩, after.mono fun m x hx => ?_⟩
      · exact ((slot m).trans (if_neg (fresh m hm))).symm.trans (frees m hm)
      · obtain shot | ⟨mem, blank⟩ := hx
        · exact .inl (.inl shot)
        · obtain e | mem := List.mem_cons.1 mem
          · exact .inl (.inr ⟨e, blank⟩)
          · exact .inr ⟨mem, blank⟩

end Hub.Accounts

end Sys2Proof.Machine
end

section
/-! SUPPORT. The references and the attention lines through every step: the accounts of the hub with the slots that the
LISTENING channels are bound to. Settled here: O60. -/

namespace Sys2Proof.Machine

/-! ## The slots bound to LISTENING channels (R87, R130) -/

/-- A LISTENING channel is bound to the slot. -/
def State.boundTo (s : State) (n : Nat) : Prop :=
  ∃ (c : Chan) (b : Binding), s.chans[c].phase = .listening ∧ s.chans[c].binding = some b ∧ b.slot = n

/-- The slot holds the shot of a LISTENING channel. -/
def State.inAir (s : State) (n : Nat) (x : Slot) : Prop := s.boundTo n ∧ s.hub.pool.slot n = some x

/-- The reference counts agree, and, if `watched`, so do the attention lines. -/
def State.accountsAgree (watched : Prop) (s : State) : Prop := s.refsAgree ∧ (watched → s.attentionFollows)

section accounts
variable {watched : Prop} {s t : State}

/-- The shots in the air stay bound when their channels and slots stay. -/
theorem State.chansBound_of (bound : s.chansBound)
    (chans : ∀ c : Chan, t.chans[c].phase = .listening → t.chans[c] = s.chans[c])
    (slots : ∀ n x, t.boundTo n → s.hub.pool.slot n = some x → t.hub.pool.slot n = some x) : t.chansBound := by
  obtain ⟨shots, apart⟩ := bound
  refine ⟨fun c listening => ?_, fun c d lc ld ne b e hb he => ?_⟩
  · have same := chans c listening
    obtain ⟨b, x, g, rule, hb, hx, shot⟩ := shots c (same ▸ listening)
    rw [← same] at hb
    exact ⟨b, x, g, rule, hb, slots b.slot x ⟨c, b, listening, hb, rfl⟩ hx, shot⟩
  · have sc := chans c lc
    have sd := chans d ld
    exact apart c d (sc ▸ lc) (sd ▸ ld) ne b e (sc ▸ hb) (sd ▸ he)

theorem State.accountsAgree.accounts (a : s.accountsAgree watched) : s.hub.Accounts watched s.inAir [] := by
  obtain ⟨⟨wf, slots, once, shots, -⟩, lines⟩ := a
  refine ⟨wf, fun n => (Hub.slotAgrees_iff _ n).1 (slots n), once,
    fun n x ⟨⟨c, b, listening, hb, slot⟩, hx⟩ => ?_, lines⟩
  obtain ⟨d, y, g, rule, hd, hy, assembling, -⟩ := shots c listening
  rw [hb] at hd
  cases hd
  rw [slot, hx] at hy
  cases hy
  exact ⟨hx, assembling⟩

theorem Hub.Accounts.agree {air : Nat → Slot → Prop} (a : s.hub.Accounts watched air []) (bound : s.chansBound) :
    s.accountsAgree watched :=
  ⟨⟨a.wf, fun n => (Hub.slotAgrees_iff _ n).2 (a.counts n), a.once, bound⟩, a.lines⟩

/-- An operation on the road of a record keeps the agreement when it leaves the shots in the air. -/
theorem State.accountsAgree.withHub (a : s.accountsAgree watched) {h : Hub} (after : h.Accounts watched s.inAir []) :
    (s.withHub h).accountsAgree watched :=
  Hub.Accounts.agree (s := s.withHub h) after
    (State.chansBound_of a.1.2.2.2 (fun _ _ => rfl) fun n x bound hx => (after.shots n x ⟨bound, hx⟩).1)

theorem State.accountsAgree.congr (a : s.accountsAgree watched) (hub : t.hub = s.hub) (chans : t.chans = s.chans) :
    t.accountsAgree watched := by
  unfold State.accountsAgree State.refsAgree State.attentionFollows State.chansBound at a ⊢
  rw [hub, chans]
  exact a

theorem State.accountsAgree.setChans (a : s.accountsAgree watched) {v : Vector Channel 3}
    (same : ∀ c : Chan, v[c].phase = .listening → v[c] = s.chans[c]) :
    State.accountsAgree watched { s with chans := v } :=
  Hub.Accounts.agree (s := { s with chans := v }) a.accounts (State.chansBound_of a.1.2.2.2 same fun _ _ _ hx => hx)

/-- The binding of a LISTENING channel names an ASSEMBLING slot with its shot. -/
theorem State.chansBound.shot (bound : s.chansBound) {c : Chan} {b : Binding}
    (listening : s.chans[c].phase = .listening) (hb : s.chans[c].binding = some b) :
    ∃ x g rule, s.hub.pool.slot b.slot = some x ∧ x.phase = .assembling ∧ x.content = .shot g rule := by
  obtain ⟨d, x, g, rule, hd, shot⟩ := bound.1 c listening
  rw [hb] at hd
  cases hd
  exact ⟨x, g, rule, shot⟩

/-- Once a channel is no longer LISTENING, no channel is bound to the slot that it was bound to. -/
theorem State.chansBound.leaves (bound : s.chansBound) {c : Chan} {b : Binding} {x : Channel}
    (listening : s.chans[c].phase = .listening) (hb : s.chans[c].binding = some b) (silent : x.phase ≠ .listening) :
    ¬ (s.setChan c x).boundTo b.slot := by
  rintro ⟨d, e, ld, hd, slot⟩
  rw [State.chans_setChan_of] at ld hd
  split at ld
  · exact silent ld
  · next ne =>
    rw [if_neg ne] at hd
    exact bound.2 c d listening ld (Ne.symm ne) b e hb hd slot.symm

end accounts

/-! ## The end of a shot (R84, R109, R110) -/

section endOfShot
variable {watched : Prop} {s : State}

theorem Hub.Accounts.couple {air : Nat → Slot → Prop} (a : s.hub.Accounts watched air []) (p : ProbeNo)
    (hit : Option Bool) (n : StepNo) : (s.couple p hit n).hub.Accounts watched air [] := by
  cases hit with
  | none => exact a
  | some hit =>
    rw [State.couple_some]
    split
    · exact Hub.Accounts.hand (h := (s.setCoupling p (s.coupledEntry p hit)).hub) a _
    · exact a

/-- The slot of a shot that is no longer in the air freed. -/
theorem Hub.Accounts.freeShot {air : Nat → Slot → Prop} {h : Hub} (a : h.Accounts watched air []) {n : Nat} {x : Slot}
    (hx : h.pool.slot n = some x) (assembling : x.phase = .assembling) (ground : ∀ y, ¬ air n y) :
    (h.withPool (h.pool.freeSlot n)).Accounts watched air [] := by
  obtain ⟨noHolder, -⟩ := a.unreferenced (n := n) fun y hy => by
    rw [hx] at hy
    exact Option.some.inj hy ▸ assembling
  exact a.freeSlot noHolder rfl (fun _ _ => rfl) ground

/-- A shot completed leaves the air before its record is fanned out or its slot freed. -/
theorem State.accountsAgree.completeShot (a : s.accountsAgree watched) {c : Chan} {b : Binding} {x : Channel}
    (listening : s.chans[c].phase = .listening) (hb : s.chans[c].binding = some b) (silent : x.phase ≠ .listening)
    (e : Evaluator) : ((s.setChan c x).completeShot b e).accountsAgree watched := by
  have bound : s.chansBound := a.1.2.2.2
  obtain ⟨y, g, rule, hy, assembling, content⟩ := bound.shot listening hb
  have t : (s.setChan c x).accountsAgree watched := a.setChans fun d ld => by
    rw [getElem_set_fin] at ld ⊢
    split at ld
    · exact absurd ld silent
    · next ne => exact if_neg ne
  generalize hu : s.setChan c x = u at t
  have pool : u.hub = s.hub := by rw [← hu]; rfl
  have ground : ∀ z, ¬ u.inAir b.slot z := fun z shot => bound.leaves listening hb silent (hu ▸ shot.1)
  have slot : u.hub.pool.slot b.slot = some y := by rw [pool]; exact hy
  have coupled := (t.accounts.addShot slot assembling).couple b.probe (couplingHit e.results) g.stepNo
  obtain ⟨stays, -⟩ := coupled.shots b.slot y (.inr ⟨rfl, rfl⟩)
  have others := coupled.mono fun n z => Or.inl (a := u.inAir n z)
  rw [State.completeShot_eq slot content]
  have ended : (u.shotHub (u.couple b.probe (couplingHit e.results) g.stepNo) b e y g rule).Accounts watched u.inAir
      [] := by
    unfold State.shotHub
    split
    · have small := Pool.slot_lt others.wf stays
      have empty : ∀ z, (u.couple b.probe (couplingHit e.results) g.stepNo).hub.pool.slot b.slot = some z →
          z.phase = .assembling := fun z hz => by
        rw [stays] at hz
        exact Option.some.inj hz ▸ assembling
      have unused : y.refs = 0 := by
        have counts := others.counts b.slot
        rw [stays, slotCounts_assembling assembling] at counts
        exact counts.1
      have written := others.putAssembling small empty ground
        (y := { y with
          page := y.page.map fun z => { z with samples := (e.excerpt.map fun a => a.samples).getD [] } })
        assembling unused
      exact (written.fanOut ((Pool.slot_putSlot others.wf _ _ _).trans (if_pos rfl)) assembling ground _).drain
    · exact (others.freeShot stays assembling ground).drain
  exact (t.withHub ended).congr rfl (State.chans_couple _ _ _ _)

/-- A stop drops the shot of a LISTENING channel (R84, R149). -/
theorem State.accountsAgree.abortChan (a : s.accountsAgree watched) (c : Chan) :
    (s.abortChan c).accountsAgree watched := by
  have bound : s.chansBound := a.1.2.2.2
  have silent : s.chans[c].aborted.phase ≠ .listening := by
    unfold Channel.aborted
    split
    · next free => rw [free]; decide
    · exact fun h => nomatch h
  have same : ∀ d : Chan, (s.chans.set c s.chans[c].aborted)[d].phase = .listening →
      (s.chans.set c s.chans[c].aborted)[d] = s.chans[d] := fun d ld => by
    rw [getElem_set_fin] at ld ⊢
    split at ld
    · exact absurd ld silent
    · next ne => exact if_neg ne
  have t : (s.setChan c s.chans[c].aborted).accountsAgree watched := a.setChans same
  rw [State.abortChan_eq]
  by_cases dropped : ∃ b, s.chans[c].phase = .listening ∧ s.chans[c].binding = some b
  · obtain ⟨b, listening, hb⟩ := dropped
    have slots : s.chans[c].dropped = some b.slot := by rw [Channel.dropped, if_pos listening, hb]; rfl
    obtain ⟨x, g, rule, hx, assembling, -⟩ := bound.shot listening hb
    have ground : ∀ y, ¬ (s.setChan c s.chans[c].aborted).inAir b.slot y := fun y shot =>
      bound.leaves listening hb silent shot.1
    have freed := t.accounts.freeShot hx assembling ground
    have returned := freed.sameRecords (k := s.hub.abortShot b.slot)
      (.of_snaps (Hub.abortShots_spec [b.slot] s.hub).1 fun q => by
        rw [Hub.abortShot_dist]
        rfl)
    rw [slots]
    exact (t.withHub returned).congr rfl rfl
  · have none : s.chans[c].dropped = none := by
      unfold Channel.dropped
      split
      · next listening =>
        cases hb : s.chans[c].binding with
        | none => rfl
        | some b => exact absurd ⟨b, listening, hb⟩ dropped
      · rfl
    rw [none]
    exact t

theorem State.accountsAgree.abortGroups (a : s.accountsAgree watched) : s.abortGroups.accountsAgree watched := by
  have aborted : (allChans.foldl State.abortChan s).accountsAgree watched :=
    foldl_keeps (I := State.accountsAgree watched) (fun a c => a.abortChan c) _ a
  exact (aborted.withHub aborted.accounts.drain).congr rfl rfl

end endOfShot

/-! ## The grant (R71, R88) -/

/-- The state between two shots of a grant: the slots left are allocated and blank, and the channels left do not
listen. -/
structure State.ReadyFor (watched : Prop) (s : State) (cs : List Chan) (ns : List Nat) : Prop where
  agree : s.accountsAgree watched
  slots : ∀ n ∈ ns, s.hub.pool.slot n = some blankSlot
  distinct : ns.Nodup
  channels : cs.Nodup
  silent : ∀ c ∈ cs, s.chans[c].phase ≠ .listening

section grant
variable {watched : Prop} {s : State} {r : Rail} {st : Step} {joined : Bool}

/-- A blank slot is no shot in the air. -/
theorem State.chansBound.not_blank (bound : s.chansBound) {n : Nat} (blank : s.hub.pool.slot n = some blankSlot) :
    ¬ s.boundTo n := by
  rintro ⟨c, b, listening, hb, rfl⟩
  obtain ⟨x, g, rule, hx, -, content⟩ := bound.shot listening hb
  rw [blank] at hx
  cases hx
  cases content

/-- A shot fired binds its channel to its slot, which holds the shot. -/
theorem State.chansBound_fireShot (w : s.hub.pool.wf = true) (bound : s.chansBound) {d : ShotPlan}
    (blank : s.hub.pool.slot d.slot = some blankSlot) : (s.fireShot r st joined d).chansBound := by
  have free := bound.not_blank blank
  have chans := s.chans_fireShot r st joined d
  have slot : ∀ m, (s.fireShot r st joined d).hub.pool.slot m =
      if m = d.slot then some (s.shotSlot r st joined d) else s.hub.pool.slot m := fun m => by
    rw [State.pool_fireShot, Pool.slot_putSlot w]
  have trigger : ∀ b, (s.chans[d.chan].trigger s.bank r d).binding = some b → b.slot = d.slot := by
    rintro b ⟨⟩
    rfl
  have other : ∀ {c : Chan} {b : Binding}, s.chans[c].phase = .listening → s.chans[c].binding = some b →
      b.slot ≠ d.slot := fun listening hb e => free ⟨_, _, listening, hb, e⟩
  refine ⟨fun c listening => ?_, fun c e lc le ne b f hb hf => ?_⟩
  · rw [chans] at listening ⊢
    split at listening
    · next ec =>
      rw [if_pos ec]
      exact ⟨_, s.shotSlot r st joined d, _, _, rfl, (slot _).trans (if_pos rfl), rfl, rfl⟩
    · next ec =>
      obtain ⟨b, x, g, rule, hb, hx, shot⟩ := bound.1 c listening
      rw [if_neg ec]
      exact ⟨b, x, g, rule, hb, (slot _).trans ((if_neg (other listening hb)).trans hx), shot⟩
  · rw [chans] at lc le hb hf
    split at lc <;> split at le
    · next ec ee => exact absurd (ec.trans ee.symm) ne
    · next ec ee =>
      rw [if_pos ec] at hb
      rw [if_neg ee] at hf
      rw [trigger b hb]
      exact (other le hf).symm
    · next ec ee =>
      rw [if_neg ec] at hb
      rw [if_pos ee] at hf
      rw [trigger f hf]
      exact other lc hb
    · next ec ee =>
      rw [if_neg ec] at hb
      rw [if_neg ee] at hf
      exact bound.2 c e lc le ne b f hb hf

theorem State.accountsAgree.fireShot (a : s.accountsAgree watched) {d : ShotPlan}
    (blank : s.hub.pool.slot d.slot = some blankSlot) : (s.fireShot r st joined d).accountsAgree watched := by
  have bound : s.chansBound := a.1.2.2.2
  have hub := a.accounts
  have written := hub.putAssembling (y := s.shotSlot r st joined d) (Pool.slot_lt hub.wf blank)
    (fun x hx => by rw [blank] at hx; exact Option.some.inj hx ▸ rfl) (fun x shot => bound.not_blank blank shot.1)
    rfl rfl
  have fired := written.sameRecords (k := (s.fireShot r st joined d).hub)
    (.of_snaps (s.pool_fireShot r st joined d) fun q => by
      rw [State.dist_fireShot]
      rfl)
  exact fired.agree (State.chansBound_fireShot hub.wf bound blank)

theorem State.ReadyFor.fireShots {is : List BlockIx} {cs : List Chan} {ns : List Nat}
    (ready : s.ReadyFor watched cs ns) : (State.fireShots s r st joined is cs ns).accountsAgree watched := by
  induction is generalizing s cs ns with
  | nil => exact ready.agree
  | cons i is ih =>
    cases cs with
    | nil => exact ready.agree
    | cons c cs =>
      cases ns with
      | nil => exact ready.agree
      | cons n ns =>
        obtain ⟨agree, slots, distinct, channels, silent⟩ := ready
        obtain ⟨blank, slots⟩ := List.forall_mem_cons.1 slots
        obtain ⟨freshSlot, distinct⟩ := List.nodup_cons.1 distinct
        obtain ⟨freshChan, channels⟩ := List.nodup_cons.1 channels
        obtain ⟨-, silent⟩ := List.forall_mem_cons.1 silent
        refine ih (s := s.fireShot r st joined (s.planShot r i c n))
          ⟨agree.fireShot blank, fun m hm => ?_, distinct, channels, fun e he => ?_⟩
        · have ne : m ≠ n := fun e => freshSlot (e ▸ hm)
          rw [State.pool_fireShot, Pool.slot_putSlot agree.1.1]
          exact (if_neg ne).trans (slots m hm)
        · have ne : e ≠ c := fun h => freshChan (h ▸ he)
          rw [State.chans_fireShot]
          exact (if_neg ne : ite (e = c) _ _ = _) ▸ silent e he

/-- The slots allocated stay blank while the open skip run is closed, and the channels granted are FREE. -/
theorem State.readyFor_prepared (a : s.accountsAgree watched) (r : Rail) :
    (s.prepared r).ReadyFor watched (s.takenChans r) (s.takenSlots r) := by
  obtain ⟨distinct, -, allocated⟩ := a.accounts.allocate (s.seq r).group.length
  obtain ⟨chans, -, -⟩ :=
    State.closeSkip_frame (s.withHub (s.hub.withPool (s.hub.pool.allocate (s.seq r).group.length).1)) r
  have closed : (s.prepared r).hub.Accounts watched
      (fun n x => s.inAir n x ∨ n ∈ s.takenSlots r ∧ x = blankSlot) [] := by
    unfold State.prepared
    rw [State.hub_closeSkip]
    obtain e | ⟨run, e⟩ := State.skipHanded_cases (s.withHub _) r (s.withHub _).hub
    · rw [e]
      exact allocated
    · rw [e]
      exact allocated.hand _
  have free : ∀ c ∈ s.takenChans r, s.chans[c].phase = .free := fun c hc =>
    of_decide_eq_true (List.mem_filter.1 (List.mem_of_mem_take hc)).2
  have same : (s.prepared r).chans = s.chans := chans
  refine ⟨((a.withHub (closed.mono fun n x => Or.inl)).congr rfl same), fun n hn => ?_, distinct, ?_, fun c hc => ?_⟩
  · exact (closed.shots n blankSlot (.inr ⟨hn, rfl⟩)).1
  · exact (List.Nodup.filter _ (by decide : allChans.Nodup)).sublist (List.take_sublist _ _)
  · rw [same, free c hc]
    decide

theorem State.accountsAgree.grant (a : s.accountsAgree watched) (r : Rail) (st : Step) :
    (s.grant r st).accountsAgree watched := by
  have shots : (s.afterShots r st).accountsAgree watched := (State.readyFor_prepared a r).fireShots
  exact shots.congr (s.hub_grant r st) (s.chans_grant r st)

end grant

/-! ## Every operation keeps the agreement -/

theorem State.accountsAgree.endPool {watched : Prop} {s : State} (a : s.accountsAgree watched) :
    s.endPool.accountsAgree watched := by
  unfold State.endPool
  split
  · next n _ free =>
    split
    · exact a
    · obtain ⟨free, small⟩ := Pool.firstFreeSlot_free a.accounts.wf free
      exact a.withHub ((a.accounts.of_slots (p := { s.hub.pool with lost := 0 }) rfl).place small free _)
  · exact a

theorem State.accountsAgree_reset (watched : Prop) : State.reset.accountsAgree watched := by
  obtain ⟨-, -, -, -, -, -, -, -, -, refs, lines⟩ := Proofs.resetMeetsEveryInvariant
  exact ⟨refs, fun _ => lines⟩

theorem recordsInvariant_accountsAgree (watched : Prop) : RecordsInvariant (State.accountsAgree watched) where
  congr := State.accountsAgree.congr
  reset := State.accountsAgree_reset watched
  ports same a := a.withHub (a.accounts.sameRecords same)
  chans _ same a := a.setChans same
  hand r a := a.withHub (a.accounts.hand r)
  endPool := State.accountsAgree.endPool
  removeHead queue a := a.withHub (a.accounts.removeHead queue)
  resetPort p a := a.withHub (a.accounts.resetPort p)
  grant r st a := a.grant r st
  completeShot listening hb silent e a := a.completeShot listening hb silent e
  abortGroups := State.accountsAgree.abortGroups

end Sys2Proof.Machine

namespace Sys2Proof.Proofs
open Sys2Proof.Machine

/-- Settles O60: every operation on the records keeps the accounts of the slots, and with them the attention lines. -/
theorem stepsKeepReferencesAndAttention : Obligations.StepsKeepReferencesAndAttention :=
  ⟨fun _ _ refs e => ((recordsInvariant_accountsAgree False).step ⟨refs, False.elim⟩ e).1,
    fun _ _ refs lines e => ((recordsInvariant_accountsAgree True).step ⟨refs, fun _ => lines⟩ e).2 trivial⟩

end Sys2Proof.Proofs
end

section
/-! SUPPORT. The road of a record as the ports see it: what the changes of the pool, the fan-outs and the claims and
returns of snapshot entries keep of the pool and the ports is kept by the track, the rails, the channels and the run. -/

namespace Sys2Proof.Machine

/-- A property of the pool and the ports that each operation on the road of a record keeps: changes of the pool,
fan-outs, and the claims and returns of snapshot entries (R125, R147, R149). -/
structure RoadInvariant (I : Hub → Prop) : Prop where
  pool : ∀ {h : Hub} (x : Pool), I h → I (h.withPool x)
  fanOut : ∀ {h : Hub} (n : Nat) (r : Rec), I h → I (h.fanOut n r)
  claim : ∀ (i : ProbeNo) (n : Nat) {h : Hub}, I h → ∀ q : Port, I (h.claimAt i n q)
  unclaim : ∀ (n : Nat) {h : Hub}, I h → ∀ q : Port, I (h.unclaimAt n q)

namespace RoadInvariant
variable {I : Hub → Prop} (k : RoadInvariant I)
include k

/-! ## Records -/

section hub
variable {h : Hub}

theorem place (n : Nat) (r : Rec) (i : I h) : I (h.place n r) := k.fanOut n r (k.pool _ i)

theorem drain (i : I h) : I h.drain :=
  Hub.drain_induction (P := I) (fun _ r _ m _ _ j => k.place m r (k.pool _ j)) i

theorem hand (r : Rec) (i : I h) : I (h.hand r) := by
  unfold Hub.hand
  split
  · exact k.place _ r i
  · split <;> exact k.pool _ i

theorem releaseEntry (i : I h) (e : Entry) : I (h.releaseEntry e) := by
  cases e with
  | marker g => exact i
  | ref n =>
    show I (h.releaseRef n)
    unfold Hub.releaseRef
    split
    · split
      · exact k.drain (k.pool _ i)
      · exact k.pool _ i
    · exact i

theorem abortShot (i : I h) (n : Nat) : I (h.abortShot n) := foldl_keeps (k.unclaim n) allPorts (k.pool _ i)

theorem skipHanded (s : State) (r : Rail) (i : I h) : I (s.skipHanded r h) := by
  obtain e | ⟨run, e⟩ := s.skipHanded_cases r h
  · rwa [e]
  · rw [e]
    exact k.hand _ i

end hub

/-! ## Rails and grants -/

variable {s : State}

theorem handRecord (b : Body) (i : I s.hub) : I (s.handRecord b).hub := k.hand _ i

theorem endPool (i : I s.hub) : I s.endPool.hub := by
  unfold State.endPool
  split
  · split
    · exact i
    · rw [State.hub_withHub]
      exact k.place _ _ (k.pool _ i)
  · exact i

theorem closeSkip (r : Rail) (i : I s.hub) : I (s.closeSkip r).hub := by
  rw [State.hub_closeSkip]
  exact k.skipHanded s r i

theorem omission (r : Rail) (no : StepNo) (c : Coverage) (i : I s.hub) : I (s.omission r no c).hub := by
  unfold State.omission
  split
  · rwa [State.hub_setSeq]
  · rw [State.hub_setSeq]
    exact k.closeSkip r i

theorem stepArrives (r : Rail) (st : Step) (i : I s.hub) : I (s.stepArrives r st).hub := by
  unfold State.stepArrives
  split
  · exact i
  · rwa [State.beginCycle, State.hub_walkOn, State.hub_setSeq]
  · split
    · rwa [State.hub_setSeq]
    · exact k.omission r _ _ i
  · split
    · rwa [State.hub_setSeq]
    · exact k.omission r _ _ i

theorem fireShot (r : Rail) (st : Step) (joined : Bool) (d : ShotPlan) (i : I s.hub) :
    I (s.fireShot r st joined d).hub := by
  unfold State.fireShot
  rw [State.hub_setChan, State.hub_setSeq]
  exact k.pool _ (foldl_keeps (k.claim _ _) allPorts i)

theorem fireShots (r : Rail) (st : Step) (joined : Bool) (is : List BlockIx) (cs : List Chan) (ns : List Nat)
    (i : I s.hub) : I (State.fireShots s r st joined is cs ns).hub := by
  induction is generalizing s cs ns with
  | nil => exact i
  | cons b is ih =>
    cases cs with
    | nil => exact i
    | cons c cs =>
      cases ns with
      | nil => exact i
      | cons n ns => exact ih cs ns (k.fireShot r st joined _ i)

theorem grant (r : Rail) (st : Step) (i : I s.hub) : I (s.grant r st).hub := by
  rw [State.hub_grant]
  exact k.fireShots r st _ _ _ _ (k.closeSkip (s := s.withHub _) r (k.pool _ i))

theorem consider (r : Rail) (i : I s.hub) : I (s.consider r).1.hub := by
  unfold State.consider
  split
  · split
    · split
      · exact k.grant r _ i
      · show I (State.setSeq _ r _).hub
        rw [State.hub_setSeq]
        exact k.omission r _ _ i
    · exact i
  · exact i

theorem afterRefusals (fuel : Nat) (l : List Rail) (i : I s.hub) : I (State.afterRefusals fuel l s).hub := by
  induction fuel generalizing l s with
  | zero => unfold State.afterRefusals; exact i
  | succ fuel ih =>
    cases l with
    | nil => unfold State.afterRefusals; exact i
    | cons r rest =>
      unfold State.afterRefusals
      exact ih _ (k.consider r (by rwa [State.hub_walkOn]))

theorem pass (i : I s.hub) : I s.pass.hub := by
  have first := k.consider s.higherRail i
  have both := k.consider s.higherRail.other first
  unfold State.pass
  dsimp only
  split
  · exact first
  · split
    · exact k.afterRefusals _ _ both
    · exact both
  · split
    · exact k.afterRefusals _ _ both
    · exact both
  · exact k.afterRefusals _ _ both

/-! ## Steps, swaps and the end of a run -/

theorem issue (i : I s.hub) : I s.issue.hub := by
  have arrived := fun (t : State) st (j : I t.hub) => k.stepArrives .b st (k.stepArrives .a st j)
  unfold State.issue
  dsimp only
  split
  · exact k.pass (by rw [State.hub_haltAtLimit]; exact arrived _ _ i)
  · rw [State.hub_haltAtLimit]
    exact arrived _ _ i

theorem complete (i : I s.hub) : I s.complete.hub := k.hand _ (k.closeSkip .b (k.closeSkip .a i))

theorem completeIfDue (i : I s.hub) : I s.completeIfDue.hub := by
  unfold State.completeIfDue
  split
  · exact k.complete i
  · exact i

theorem issueReached (n : Nat) (i : I s.hub) : I (State.issueReached n s).hub := by
  induction n generalizing s with
  | zero => exact i
  | succ n ih =>
    unfold State.issueReached
    split
    · exact ih (k.completeIfDue (k.issue (s := s.advanceBoundary) i))
    · exact i

theorem swap (i : I s.hub) : I s.swap.hub := by
  unfold State.swap
  split
  · refine k.issueReached _ ?_
    unfold State.swapBanks
    rw [State.hub_newPitch]
    exact k.hand _ i
  · exact i

theorem swapIfDue (i : I s.hub) : I s.swapIfDue.hub := by
  unfold State.swapIfDue
  split
  · exact k.swap i
  · exact i

theorem afterCycles (i : I s.hub) : I s.afterCycles.hub := by
  unfold State.afterCycles
  split
  · dsimp only
    split
    · exact k.completeIfDue (k.swap (s := { s with freeCount := s.freeCount + 1 }) i)
    · exact k.swapIfDue (k.complete (s := { s with freeCount := s.freeCount + 1 }) i)
  · exact k.swapIfDue (k.completeIfDue i)

/-! ## The track -/

theorem genTick (plus : Bool) (i : I s.hub) : I (s.genTick plus).hub := by
  by_cases off : s.gen.state = .off
  · rwa [State.genTick_off off]
  · obtain ⟨d, n, -, e⟩ := State.genTick_on off plus
    rw [e]
    split
    · exact k.afterCycles (k.issue (s := (s.follow d n).advanceBoundary) i)
    · exact i

theorem ticks (plus : Bool) (n : Nat) (i : I s.hub) : I (State.ticks plus n s).hub := by
  induction n generalizing s with
  | zero => exact i
  | succ n ih =>
    rw [State.ticks, State.tick_eq]
    exact ih (k.genTick (s := s.counted plus) plus i)

theorem transition (a b : Bool) (i : I s.hub) : I (s.transition a b).hub := by
  have counted := fun plus =>
    k.endPool (s := State.count { s with odo := { s.odo with lineA := a, lineB := b } } plus) (k.ticks plus _ i)
  unfold State.transition
  dsimp only
  split
  · exact i
  · exact counted true
  · exact counted false
  · exact k.endPool (k.hand _ i)

theorem markerChange (m : Marker) (level : Bool) (i : I s.hub) : I (s.markerChange m level).hub := by
  unfold State.markerChange
  dsimp only
  split
  · exact k.endPool (k.hand _ i)
  · exact i

theorem timerExpiry (i : I s.hub) : I s.timerExpiry.hub := by
  unfold State.timerExpiry
  split
  · refine k.endPool ?_
    unfold State.restartStepTimer
    split <;> exact k.afterCycles (k.issue i)
  · exact i

/-! ## The channels -/

theorem couple (p : ProbeNo) (hit : Option Bool) (n : StepNo) (i : I s.hub) : I (s.couple p hit n).hub := by
  cases hit with
  | none => exact i
  | some hit =>
    rw [State.couple_some]
    split
    · exact k.hand _ i
    · exact i

theorem completeShot (b : Binding) (e : Evaluator) (i : I s.hub) : I (s.completeShot b e).hub := by
  unfold State.completeShot
  split
  · exact i
  · split
    · exact i
    · exact i
    · exact i
    · have coupled := fun n => k.couple b.probe (couplingHit e.results) n i
      dsimp only
      split
      · rw [State.hub_withHub, Hub.report]
        exact k.drain (k.fanOut _ _ (k.pool _ (coupled _)))
      · rw [State.hub_withHub, Hub.discardShot]
        exact k.drain (k.pool _ (coupled _))

theorem settleEnd (c : Chan) (i : I s.hub) : I (s.settleEnd c).hub := by
  unfold State.settleEnd
  split
  · next b _ _ =>
    split
    · exact i
    · have ended : I (s.groupOver b.rail).hub := by
        rw [State.hub_groupOver]
        exact i
      exact k.afterCycles (k.pass (by rwa [State.hub_walkOn]))
  · exact i

theorem windowEnd (c : Chan) (first : Sample) (rest : List Sample) (i : I s.hub) :
    I (s.windowEnd c first rest).hub := by
  unfold State.windowEnd
  split
  · next b _ _ =>
    have completed := fun x e => k.completeShot (s := s.setChan c x) b e i
    dsimp only
    split
    · refine k.settleEnd c ?_
      rw [State.hub_setSeq]
      exact completed _ _
    · rw [State.hub_setSeq]
      exact completed _ _
  · exact i

/-! ## The run and the holds -/

theorem startBy (limit : BitVec 24) (label : BitVec 16) (i : I s.hub) : I (s.startBy limit label).1.hub := by
  unfold State.startBy
  split
  · exact k.endPool (k.hand _ i)
  · exact i

theorem stopBy (i : I s.hub) : I s.stopBy.1.hub := by
  unfold State.stopBy
  split
  · exact i
  · refine k.endPool (k.swapIfDue ?_)
    have aborted : I s.abortedHub := foldl_keeps k.abortShot _ i
    rw [State.stop_eq]
    exact k.hand _ (k.skipHanded s .b (k.skipHanded s .a (k.drain aborted)))

theorem reform (j : ProbeNo) (i : I s.hub) : I (s.reform j).hub := by
  obtain ⟨requesting, named⟩ | free := (s.seq (railOf j)).named_or_passesOver s.bank j
  · have reduced : I (s.reduced j).hub := (State.hub_setSeq _ _ _).symm ▸ i
    rw [State.reform_named requesting named]
    split
    · exact k.afterCycles (k.pass (by rwa [State.hub_walkOn]))
    · exact k.afterCycles (k.pass reduced)
  · rwa [State.reform_unnamed free]

theorem holdBy (p : Port) (probe : Byte) (i : I s.hub) : I (s.holdBy p probe).1.hub := by
  unfold State.holdBy
  split
  · exact i
  · dsimp only
    unfold State.hold
    split
    · exact k.endPool (k.reform _ (k.hand _ i))
    · exact i

theorem unhold (p : Port) (j : ProbeNo) (i : I s.hub) : I (s.unhold p j).hub := by
  rw [State.unhold_eq]
  show I (s.releasedHub p s.hub j)
  unfold State.releasedHub
  split
  · exact k.hand _ i
  · exact i

theorem unholdBy (p : Port) (probe : Byte) (i : I s.hub) : I (s.unholdBy p probe).1.hub := by
  unfold State.unholdBy
  split
  · exact i
  · split
    · exact k.endPool (k.unhold p _ i)
    · exact i

end RoadInvariant

end Sys2Proof.Machine
end

section
/-! SUPPORT. Sound ports: the bounds of a port, and the operations of the transmit side, of the answers, of the settings
and of the road of a record, each of which keeps every port sound. -/

namespace Sys2Proof.Machine

/-! ## Bounds of a port (R136, R164, R167, R172) -/

/-- The refusal list and the hold time lie within their ranges. -/
def PortCtl.Fits (c : PortCtl) : Prop := c.refusals.length ≤ Config.refusalDepth ∧ c.holdTime ≤ 2000

/-- The queue and the threshold lie within their ranges. -/
def PortDist.Fits (d : PortDist) : Prop := d.queue.length ≤ Config.queueDepth ∧ 1 ≤ d.threshold ∧ d.threshold ≤ 256

/-- A port that carries out or answers a request, or waits for one: neither ABSENT nor holding a TAKE. -/
def PortState.Works (x : PortState) : Prop := x = .ready ∨ x = .answering

theorem PortUnit.sound_iff (c : PortCtl) (d : PortDist) :
    PortUnit.sound ⟨c, d⟩ ↔ c.Fits ∧ d.Fits ∧ (c.state = .absent → c = PortCtl.reset ∧ d = PortDist.reset) ∧
      (c.state = .heldTake → c.take.isSome ∧ d.queue = [] ∧ d.gap = none) := by
  unfold PortUnit.sound PortCtl.Fits PortDist.Fits PortUnit.reset
  rw [PortUnit.mk.injEq]
  constructor
  · rintro ⟨queue, refusals, hold, threshold, absent, held⟩
    exact ⟨⟨refusals, hold⟩, ⟨queue, threshold⟩, absent, held⟩
  · rintro ⟨⟨refusals, hold⟩, ⟨queue, threshold⟩, absent, held⟩
    exact ⟨queue, refusals, hold, threshold, absent, held⟩

theorem PortUnit.sound_reset : PortUnit.reset.sound := Hub.ports_reset 0 ▸ State.portsSound_reset 0

/-- At a port that works the bounds are all that is asked. -/
theorem PortUnit.sound_of_works {c : PortCtl} {d : PortDist} (works : c.state.Works) (ctl : c.Fits) (dist : d.Fits) :
    PortUnit.sound ⟨c, d⟩ := by
  refine (PortUnit.sound_iff c d).2 ⟨ctl, dist, fun absent => ?_, fun held => ?_⟩
  · obtain e | e := works <;> exact nomatch e.symm.trans absent
  · obtain e | e := works <;> exact nomatch e.symm.trans held

section fits
variable {c : PortCtl}

theorem PortCtl.Fits.nextFrame (fits : c.Fits) : c.nextFrame.Fits := by
  obtain ⟨refusals, hold⟩ := fits
  refine ⟨?_, by rwa [PortCtl.holdTime_nextFrame]⟩
  unfold PortCtl.nextFrame
  split
  · exact refusals
  · split
    · next waiting =>
      rw [waiting] at refusals
      exact Nat.le_of_succ_le refusals
    · next waiting => split <;> exact refusals

/-- A refusal joins the list while fewer than 4 wait (R167). -/
theorem PortCtl.Fits.refused (fits : c.Fits) (f : TxFrame) : (c.refused f).Fits := by
  unfold PortCtl.refused
  split
  · next room =>
    refine PortCtl.Fits.nextFrame ⟨?_, fits.2⟩
    rw [List.length_append]
    exact room
  · exact fits

theorem PortCtl.Fits.endHeld (fits : c.Fits) (x : PortState) : (c.endHeld x).Fits := by
  unfold PortCtl.endHeld
  split
  · exact PortCtl.Fits.nextFrame fits
  · exact fits

theorem PortCtl.refused_state (f : TxFrame) : (c.refused f).state = c.state ∧ (c.refused f).take = c.take := by
  unfold PortCtl.refused
  split
  · rw [PortCtl.state_nextFrame, PortCtl.take_nextFrame]
    exact ⟨rfl, rfl⟩
  · exact ⟨rfl, rfl⟩

/-- An arrival that ends a hold leaves the port ANSWERING (R170). -/
theorem PortCtl.woken_of_held (held : c.state = .heldTake) (fits : c.Fits) (pool : Pool) {d : PortDist}
    (filled : d.queue ≠ []) : (c.woken pool d).state = .answering ∧ (c.woken pool d).Fits := by
  rw [PortCtl.woken, if_pos ⟨held, filled⟩]
  unfold PortCtl.choose
  split
  · split
    · unfold PortCtl.sendHead
      split <;> exact ⟨rfl, fits⟩
    · rw [PortCtl.state_nextFrame]
      exact ⟨rfl, PortCtl.Fits.nextFrame fits⟩
  · rw [PortCtl.state_nextFrame]
    exact ⟨rfl, PortCtl.Fits.nextFrame fits⟩

theorem PortDist.Fits.offered {d : PortDist} (fits : d.Fits) (pool : Pool) (seq : BitVec 32) (n : Nat) (r : Rec) :
    (d.offered pool seq n r).Fits := by
  obtain ⟨queue, threshold⟩ := fits
  refine ⟨?_, by rwa [PortDist.offered_frame]⟩
  rw [PortDist.queue_offered]
  split
  · exact PortDist.length_offer queue seq n
  · exact queue

/-- A sound port stays sound when a record is offered to it and a TAKE it holds is answered (R141, R170). -/
theorem PortUnit.sound_arrival {d : PortDist} (sound : PortUnit.sound ⟨c, d⟩) (pool pool' : Pool) (seq : BitVec 32)
    (n : Nat) (r : Rec) :
    PortUnit.sound ⟨c.woken pool' (d.offered pool seq n r), d.offered pool seq n r⟩ ∧
      (c.state ≠ .absent → (c.woken pool' (d.offered pool seq n r)).state ≠ .absent) := by
  by_cases wants : d.wants n r = true
  · obtain ⟨ctl, dist, absent, held⟩ := (PortUnit.sound_iff c d).1 sound
    have offered := dist.offered pool seq n r
    have present : c.state ≠ .absent := fun a => by
      rw [(absent a).2, PortDist.reset_wants_nothing] at wants
      cases wants
    by_cases holds : c.state = .heldTake
    · obtain ⟨-, empty, noGap⟩ := held holds
      have filled : (d.offered pool seq n r).queue ≠ [] := by
        rw [PortDist.queue_offered, if_pos wants, PortDist.offer_of_empty empty noGap]
        simp
      obtain ⟨answering, fits⟩ := PortCtl.woken_of_held holds ctl pool' filled
      exact ⟨PortUnit.sound_of_works (.inr answering) fits offered, fun _ => by rw [answering]; decide⟩
    · rw [PortCtl.woken_of_not_held (.inl holds)]
      exact ⟨(PortUnit.sound_iff _ _).2 ⟨ctl, offered, fun a => absurd a present, fun h => absurd h holds⟩, id⟩
  · rw [PortDist.offered_of_not_wants wants, PortCtl.woken_of_not_held]
    · exact ⟨sound, id⟩
    · by_cases holds : c.state = .heldTake
      · exact .inr (((PortUnit.sound_iff c d).1 sound).2.2.2 holds).2.1
      · exact .inl holds

end fits

/-! ## Sound hubs -/

/-- Every port is sound, and the ports `live` are not ABSENT. -/
def Hub.PortsSound (live : Port → Prop) (h : Hub) : Prop :=
  ∀ q, PortUnit.sound ⟨h.ctl q, h.dist q⟩ ∧ (live q → (h.ctl q).state ≠ .absent)

/-- The live ports with one more. -/
abbrev andLive (live : Port → Prop) (p : Port) : Port → Prop := fun q => live q ∨ q = p

theorem State.portsSound_iff (s : State) : s.portsSound ↔ s.hub.PortsSound (fun _ => False) :=
  ⟨fun sound q => ⟨sound q, False.elim⟩, fun sound q => (sound q).1⟩

namespace Hub.PortsSound
variable {live : Port → Prop} {h : Hub} {p : Port}

theorem ctl (i : h.PortsSound live) (p : Port) : (h.ctl p).Fits := ((PortUnit.sound_iff _ _).1 (i p).1).1

theorem dist (i : h.PortsSound live) (p : Port) : (h.dist p).Fits := ((PortUnit.sound_iff _ _).1 (i p).1).2.1

theorem absent (i : h.PortsSound live) (absent : (h.ctl p).state = .absent) :
    h.ctl p = PortCtl.reset ∧ h.dist p = PortDist.reset := ((PortUnit.sound_iff _ _).1 (i p).1).2.2.1 absent

theorem held (i : h.PortsSound live) (held : (h.ctl p).state = .heldTake) :
    (h.ctl p).take.isSome ∧ (h.dist p).queue = [] ∧ (h.dist p).gap = none :=
  ((PortUnit.sound_iff _ _).1 (i p).1).2.2.2 held

/-- A port that differs from its reset value is not ABSENT (R164). -/
theorem present (i : h.PortsSound live) {α : Type} (f : PortCtl → α) (differs : f (h.ctl p) ≠ f PortCtl.reset) :
    (h.ctl p).state ≠ .absent := fun a => differs (congrArg f (i.absent a).1)

theorem mono {fewer : Port → Prop} (i : h.PortsSound live) (sub : ∀ q, fewer q → live q) : h.PortsSound fewer :=
  fun q => ⟨(i q).1, fun f => (i q).2 (sub q f)⟩

/-- A port that is not ABSENT counts among the live ones. -/
theorem add (i : h.PortsSound live) (present : (h.ctl p).state ≠ .absent) : h.PortsSound (andLive live p) :=
  fun q => ⟨(i q).1, fun l => l.elim (i q).2 (fun e => e ▸ present)⟩

/-! ## A port replaced -/

theorem setCtl (i : h.PortsSound live) {c : PortCtl} (sound : PortUnit.sound ⟨c, h.dist p⟩)
    (present : live p → c.state ≠ .absent) : (h.setCtl p c).PortsSound live := by
  intro q
  rw [Hub.ctl_setCtl, Hub.dist_setCtl]
  split
  · next e => subst e; exact ⟨sound, present⟩
  · exact i q

theorem setDist (i : h.PortsSound live) {d : PortDist} (sound : PortUnit.sound ⟨h.ctl p, d⟩) :
    (h.setDist p d).PortsSound live := by
  intro q
  rw [Hub.ctl_setDist, Hub.dist_setDist]
  split
  · next e => subst e; exact ⟨sound, (i q).2⟩
  · exact i q

/-- The controller comes to work. -/
theorem setCtl_works (i : h.PortsSound live) {c : PortCtl} (works : c.state.Works) (fits : c.Fits) :
    (h.setCtl p c).PortsSound live :=
  i.setCtl (PortUnit.sound_of_works works fits (i.dist p)) fun _ => by
    obtain e | e := works <;> rw [e] <;> decide

/-- The controller stays in its state, and a TAKE it holds stays. -/
theorem setCtl_stays (i : h.PortsSound live) {c : PortCtl} (present : (h.ctl p).state ≠ .absent) (fits : c.Fits)
    (state : c.state = (h.ctl p).state) (take : c.take = (h.ctl p).take) : (h.setCtl p c).PortsSound live := by
  refine i.setCtl ((PortUnit.sound_iff _ _).2 ⟨fits, i.dist p, fun a => ?_, fun held => ?_⟩) fun _ => state ▸ present
  · exact absurd (state ▸ a) present
  · rw [take]
    exact i.held (state ▸ held)

/-- The controller holds a TAKE over an empty queue without a gap (R169). -/
theorem setCtl_holds (i : h.PortsSound live) {c : PortCtl} (fits : c.Fits) (held : c.state = .heldTake)
    (take : c.take.isSome) (empty : (h.dist p).queue = [] ∧ (h.dist p).gap = none) :
    (h.setCtl p c).PortsSound live := by
  have present : c.state ≠ .absent := by rw [held]; decide
  exact i.setCtl ((PortUnit.sound_iff _ _).2 ⟨fits, i.dist p, fun a => absurd a present, fun _ => ⟨take, empty⟩⟩)
    fun _ => present

/-- What is distributed at a port that works. -/
theorem setDist_works (i : h.PortsSound live) {d : PortDist} (works : (h.ctl p).state.Works) (fits : d.Fits) :
    (h.setDist p d).PortsSound live := i.setDist (PortUnit.sound_of_works works (i.ctl p) fits)

/-- The settings of a port, its queue and its gap as they were. -/
theorem setDist_stays (i : h.PortsSound live) {d : PortDist} (present : (h.ctl p).state ≠ .absent) (fits : d.Fits)
    (queue : d.queue = (h.dist p).queue) (gap : d.gap = (h.dist p).gap) : (h.setDist p d).PortsSound live := by
  refine i.setDist ((PortUnit.sound_iff _ _).2 ⟨i.ctl p, fits, fun a => absurd a present, fun held => ?_⟩)
  rw [queue, gap]
  exact i.held held

/-- A snapshot entry, none where it was none before. -/
theorem setSnap (i : h.PortsSound live) {e : SnapEntry} (none : (h.dist p).snap = .none → e = .none) :
    (h.setDist p { h.dist p with snap := e }).PortsSound live := by
  by_cases absent : (h.ctl p).state = .absent
  · obtain ⟨-, reset⟩ := i.absent absent
    have same : { h.dist p with snap := e } = h.dist p := by rw [none (by rw [reset]; rfl), reset]; rfl
    rw [same]
    exact i.setDist (i p).1
  · exact i.setDist_stays absent (i.dist p) rfl rfl

/-! ## The transmit side and the answers -/

theorem sendTake (i : h.PortsSound live) (answering : (h.ctl p).state = .answering) (t : TakeJob) :
    (h.sendTake p t).PortsSound live := by
  have works : (h.ctl p).state.Works := .inr answering
  have ended : (h.sendEnd p t).PortsSound live := i.setCtl_works works (i.ctl p)
  have sent : ∀ f, (h.send p f).PortsSound live := fun f => i.setCtl_works works (i.ctl p)
  unfold Hub.sendTake
  split
  · exact ended
  · split
    · split
      · exact sent _
      · exact ended
    · exact sent _
    · split
      · next g _ =>
        have closed : (h.putDist p { h.dist p with queue := [.marker g], gap := none }).PortsSound live :=
          i.setDist_works works ⟨by simp [Config.queueDepth], (i.dist p).2⟩
        exact closed.setCtl_works (by rw [Hub.ctl_putDist]; exact works) (closed.ctl p)
      · exact ended

theorem startNext (i : h.PortsSound live) (p : Port) : (h.startNext p).PortsSound live := by
  unfold Hub.startNext
  split
  · exact i
  · split
    · next waits =>
      obtain ⟨refusals, hold⟩ := i.ctl p
      rw [waits] at refusals
      exact i.setCtl_stays (i.present PortCtl.refusals (by rw [waits]; exact List.cons_ne_nil _ _))
        ⟨Nat.le_of_succ_le refusals, hold⟩ rfl rfl
    · split
      · next waits =>
        exact i.setCtl_stays (i.present PortCtl.answers (by rw [waits]; exact List.cons_ne_nil _ _)) (i.ctl p) rfl rfl
      · split
        · split
          · next answering => exact i.sendTake answering _
          · exact i
        · exact i

theorem answerFrame (i : h.PortsSound live) (p : Port) (f : TxFrame) : (h.answerFrame p f).PortsSound live := by
  rw [Hub.answerFrame_eq]
  exact i.setCtl_works (by rw [PortCtl.state_nextFrame]; exact .inr rfl) (PortCtl.Fits.nextFrame (i.ctl p))

theorem endHold (i : h.PortsSound live) (p : Port) {x : PortState} (works : x.Works) :
    (h.endHold p x).PortsSound live := by
  rw [Hub.endHold_eq]
  exact i.setCtl_works (by rwa [PortCtl.state_endHeld]) ((i.ctl p).endHeld x)

/-- The transmit side is idle after a frame has been sent. -/
theorem idleTx (i : h.PortsSound live) (sends : (h.ctl p).sending ≠ none) : (h.idleTx p).PortsSound live :=
  i.setCtl_stays (i.present PortCtl.sending sends) (i.ctl p) rfl rfl

theorem answerSent (i : h.PortsSound live) (sends : (h.ctl p).sending ≠ none) : (h.answerSent p).PortsSound live := by
  unfold Hub.answerSent
  split
  · exact i.setCtl_works (.inl rfl) (i.ctl p)
  · exact i.idleTx sends

theorem takeEntries (i : h.PortsSound live) (p : Port) (tag count : Byte) :
    (h.takeEntries p tag count).PortsSound live := by
  unfold Hub.takeEntries
  split
  · exact i.answerFrame p _
  · split
    · next empty =>
      split
      · exact i.answerFrame p _
      · exact i.setCtl_holds (i.ctl p) rfl rfl empty
    · refine Hub.PortsSound.startNext ?_ p
      exact i.setCtl_works (.inr rfl) (i.ctl p)

theorem configure (i : h.PortsSound live) (present : (h.ctl p).state ≠ .absent) {hold threshold : Nat}
    (short : hold ≤ 2000) (range : 1 ≤ threshold ∧ threshold ≤ 256) :
    (h.configure p hold threshold).PortsSound live := by
  have held : (h.setCtl p { h.ctl p with holdTime := hold }).PortsSound live :=
    i.setCtl_stays present ⟨(i.ctl p).1, short⟩ rfl rfl
  unfold Hub.configure Hub.putDist
  refine held.setDist_stays (by rwa [Hub.ctl_setCtl_self]) ⟨(i.dist p).1, range⟩ ?_ ?_
  · rw [Hub.dist_setCtl]
  · rw [Hub.dist_setCtl]

/-! ## The road of a record -/

theorem fanOut (i : h.PortsSound live) (n : Nat) (r : Rec) : (h.fanOut n r).PortsSound live := by
  intro q
  have arrival := PortUnit.sound_arrival (i q).1 (h.numbered n r) (h.fanOut n r).pool (nextSeq h.pool.seq) n r
  rw [Hub.ctl_fanOut, Hub.dist_fanOut]
  exact ⟨arrival.1, fun l => arrival.2 ((i q).2 l)⟩

theorem road (live : Port → Prop) : RoadInvariant (Hub.PortsSound live) where
  pool _ i q := i q
  fanOut n r i := i.fanOut n r
  claim m n _ i q := by
    unfold Hub.claimAt
    exact i.setSnap fun none => by rw [none]; rfl
  unclaim n _ i q := by
    unfold Hub.unclaimAt
    exact i.setSnap fun none => by rw [none]; rfl

/-- An entry sent leaves a queue, so its port works (R145). -/
theorem removeHead (i : h.PortsSound live) {e : Entry} {rest : List Entry} (filled : (h.dist p).queue = e :: rest) :
    (h.removeHead p e rest).PortsSound live := by
  have works : (h.ctl p).state.Works := by
    cases state : (h.ctl p).state with
    | absent => rw [(i.absent state).2] at filled; cases filled
    | ready => exact .inl rfl
    | answering => exact .inr rfl
    | heldTake => rw [(i.held state).2.1] at filled; cases filled
  obtain ⟨queue, threshold⟩ := i.dist p
  rw [filled] at queue
  have shorter : PortDist.Fits { h.dist p with queue := rest } := ⟨Nat.le_of_succ_le queue, threshold⟩
  have idle : Hub.PortsSound live
      (h.setCtl p { h.ctl p with sending := none, take := (h.ctl p).take.map TakeJob.oneSent }) :=
    i.setCtl_works works (i.ctl p)
  unfold Hub.removeHead Hub.putDist
  refine (road live).releaseEntry ?_ e
  refine idle.setDist_works ?_ shorter
  rwa [Hub.ctl_setCtl_self]

/-- A port reset takes its reset values; its references are released (R151, R171). -/
theorem resetPort (i : h.PortsSound live) (gone : ¬ live p) : (h.resetPort p).PortsSound live := by
  refine foldl_keeps (road live).releaseEntry _ fun q => ?_
  unfold Hub.ctl Hub.dist
  rw [Hub.ports_setPort]
  split
  · next e =>
    subst e
    exact ⟨PortUnit.sound_reset, fun l => absurd l gone⟩
  · exact i q

end Hub.PortsSound

end Sys2Proof.Machine
end

section
/-! SUPPORT. Sound ports through every step: requests, the receive side and the events of a port. A request is carried
out with its port live, so that its settings are those of a port that is not ABSENT. Settled here: O59. -/

namespace Sys2Proof.Machine

namespace Hub.PortsSound
variable {live : Port → Prop} {s : State} {p : Port}

/-! ## Requests -/

/-- A request is carried out while its port is not ABSENT (R166). -/
theorem receive (tag kind : Byte) {act : State → State}
    (h : ∀ {t : State}, t.hub.PortsSound (andLive live p) → (act t).hub.PortsSound (andLive live p))
    (i : s.hub.PortsSound live) : (s.receive p tag kind act).hub.PortsSound live := by
  have cleared : (s.hub.ctl p).state ≠ .absent → (s.clearRx p).hub.PortsSound (andLive live p) := fun present =>
    (i.add present).setCtl_stays present (i.ctl p) rfl rfl
  have sub : ∀ q, live q → andLive live p q := fun _ => Or.inl
  unfold State.receive
  split
  · exact i
  · next answering =>
    have clear := cleared (by rw [answering]; decide)
    have ctl : (s.clearRx p).hub.ctl p = { s.hub.ctl p with rx := [] } := Hub.ctl_setCtl_self _ _ _
    have busy : ((s.clearRx p).hub.ctl p).state = .answering := by rw [ctl, answering]
    rw [State.hub_withHub, Hub.refuse_eq _ _ _ (by rw [ctl])]
    refine Hub.PortsSound.mono (clear.setCtl_works ?_ ((clear.ctl p).refused _)) sub
    rw [(PortCtl.refused_state _).1]
    exact .inr busy
  · next ready => exact (h (cleared (by rw [ready]; decide))).mono sub
  · next held =>
    exact (h (t := State.withHub _ _) ((cleared (by rw [held]; decide)).endHold p (.inl rfl))).mono sub

theorem request (tag kind : Byte) {serve : State → State × Reply}
    (h : ∀ {t : State}, t.hub.PortsSound (andLive live p) → (serve t).1.hub.PortsSound (andLive live p))
    (i : s.hub.PortsSound live) : (s.request p tag kind serve).hub.PortsSound live :=
  receive tag kind (fun j => (h j).answerFrame p _) i

theorem rightRequest (tag kind : Byte) {body : State → State × Reply}
    (h : ∀ {t : State}, t.hub.PortsSound (andLive live p) → (body t).1.hub.PortsSound (andLive live p))
    (i : s.hub.PortsSound live) : (s.request p tag kind fun t => t.withRight p body).hub.PortsSound live := by
  refine request tag kind (fun {t} j => ?_) i
  unfold State.withRight
  split
  · dsimp only
    split <;> exact h j
  · exact j

/-! ### Requests of the Plan Store and the odometer -/

theorem writeShadow (checks : List Bool) (edit : Bank → Bank) (i : s.hub.PortsSound live) :
    (s.writeShadow checks edit).1.hub.PortsSound live := by
  unfold State.writeShadow
  split
  · split <;> exact i
  · exact i

theorem claim (i : s.hub.PortsSound live) : (s.claim p).1.hub.PortsSound live := by
  unfold State.claim
  split
  · exact i
  · split <;> exact i

theorem releaseRight (i : s.hub.PortsSound live) : (s.releaseRight p).1.hub.PortsSound live := by
  unfold State.releaseRight
  split <;> exact i

theorem commitBy (i : s.hub.PortsSound live) : (s.commitBy p).1.hub.PortsSound live := by
  unfold State.commitBy
  split
  · split
    · exact i
    · exact (road live).endPool ((road live).afterCycles i)
  · exact i

theorem abandonBy (i : s.hub.PortsSound live) : s.abandonBy.1.hub.PortsSound live := by
  unfold State.abandonBy
  split <;> exact i

theorem setScalerBy (num den : BitVec 16) (i : s.hub.PortsSound live) :
    (s.setScalerBy num den).1.hub.PortsSound live := by
  unfold State.setScalerBy
  split
  · split <;> exact i
  · exact i

theorem setMarkerBy (marker enabled edge : Byte) (lockout : BitVec 16) (action : Byte) (load : Pos)
    (i : s.hub.PortsSound live) : (s.setMarkerBy marker enabled edge lockout action load).1.hub.PortsSound live := by
  unfold State.setMarkerBy
  split <;> exact i

theorem readEntry (role item index : Byte) (i : s.hub.PortsSound live) :
    (s.readEntry role item index).1.hub.PortsSound live := by
  unfold State.readEntry
  split <;> exact i

/-! ### Requests of the ports -/

/-- The settings of a live port. -/
theorem settings (i : s.hub.PortsSound live) (l : live p) {d : PortDist} (fits : d.Fits)
    (queue : d.queue = (s.hub.dist p).queue) (gap : d.gap = (s.hub.dist p).gap) :
    (s.withHub (s.hub.setDist p d)).hub.PortsSound live := i.setDist_stays ((i p).2 l) fits queue gap

theorem snapshotBy (l : live p) (probe : Byte) (i : s.hub.PortsSound live) :
    (s.snapshotBy p probe).1.hub.PortsSound live := by
  unfold State.snapshotBy
  split
  · exact i
  · split
    · exact i.settings l (i.dist p) rfl rfl
    · exact i.settings l (i.dist p) rfl rfl
    · exact i

theorem doConfigurePort (tag : Byte) (hold threshold : BitVec 16) (i : s.hub.PortsSound live) :
    (s.doConfigurePort p tag hold threshold).hub.PortsSound live :=
  request tag _ (fun j => by
    split
    · exact j
    · next inside =>
      obtain ⟨short, range⟩ : (0 ≤ hold.toNat ∧ hold.toNat ≤ 2000) ∧ 1 ≤ threshold.toNat ∧ threshold.toNat ≤ 256 := by
        simpa [firstBad_eq_none_iff, configureChecks] using inside
      exact j.configure ((j p).2 (.inr rfl)) short.2 range) i

theorem doSubscribe (tag entry matchVal mask enabled : Byte) (i : s.hub.PortsSound live) :
    (s.doSubscribe p tag entry matchVal mask enabled).hub.PortsSound live :=
  request tag _ (fun j => by
    split
    · exact j
    · exact j.settings (.inr rfl) (j.dist p) rfl rfl) i

theorem doGeneral (tag flag : Byte) (i : s.hub.PortsSound live) : (s.doGeneral p tag flag).hub.PortsSound live :=
  request tag _ (fun j => by
    split
    · exact j
    · exact j.settings (.inr rfl) (j.dist p) rfl rfl) i

theorem doTake (tag count : Byte) (i : s.hub.PortsSound live) : (s.doTake p tag count).hub.PortsSound live :=
  receive tag _ (fun j => j.takeEntries p tag count) i

theorem doSnapshot (tag probe : Byte) (i : s.hub.PortsSound live) : (s.doSnapshot p tag probe).hub.PortsSound live :=
  request tag _ (fun j => j.snapshotBy (.inr rfl) probe) i

theorem doCancelSnapshot (tag : Byte) (i : s.hub.PortsSound live) : (s.doCancelSnapshot p tag).hub.PortsSound live :=
  request tag _ (fun j => j.settings (.inr rfl) (j.dist p) rfl rfl) i

theorem doUnknown (tag kind : Byte) (i : s.hub.PortsSound live) : (s.doUnknown p tag kind).hub.PortsSound live :=
  request tag kind id i

/-- A complete frame acts as the request of its kind (R165, R166). -/
theorem handleFrame (tag kind : Byte) (payload : List Byte) (i : s.hub.PortsSound live) :
    (s.handleFrame p tag kind payload).hub.PortsSound live :=
  State.handleFrame_cases (P := fun t => t.hub.PortsSound live) (s := s)
    (identify := request tag _ id i)
    (readStatus := request tag _ id i)
    (configurePort := fun _ _ => i.doConfigurePort tag _ _)
    (subscribe := fun _ _ _ _ => i.doSubscribe tag _ _ _ _)
    (general := fun _ => i.doGeneral tag _)
    (take := fun _ => i.doTake tag _)
    (snapshot := fun _ => i.doSnapshot tag _)
    (cancelSnapshot := i.doCancelSnapshot tag)
    (readPlanEntry := fun _ _ _ => request tag _ (readEntry _ _ _) i)
    (claimEdit := request tag _ claim i)
    (startRun := fun _ _ => request tag _ ((road _).startBy _ _) i)
    (stopRun := request tag _ (road _).stopBy i)
    (holdProbe := fun _ => request tag _ ((road _).holdBy p _) i)
    (releaseProbe := fun _ => request tag _ ((road _).unholdBy p _) i)
    (releaseEdit := request tag _ releaseRight i)
    (writeStepSettings := fun _ _ _ _ _ _ => rightRequest tag _ (writeShadow _ _) i)
    (writeProbe := fun _ _ _ _ _ _ _ _ => rightRequest tag _ (writeShadow _ _) i)
    (writeGate := fun _ _ _ _ _ _ _ _ => rightRequest tag _ (writeShadow _ _) i)
    (writeBlock := fun _ _ _ _ _ _ _ _ _ _ => rightRequest tag _ (writeShadow _ _) i)
    (commit := rightRequest tag _ commitBy i)
    (abandon := rightRequest tag _ abandonBy i)
    (setScaler := fun _ _ => rightRequest tag _ (setScalerBy _ _) i)
    (setPosition := fun _ => rightRequest tag _ (fun j => j) i)
    (setMarker := fun _ _ _ _ _ _ => rightRequest tag _ (setMarkerBy _ _ _ _ _ _) i)
    (kind := kind) (unknown := i.doUnknown tag kind) (payload := payload)

/-! ## The receive side -/

theorem setRx (present : (s.hub.ctl p).state ≠ .absent) (rx : List Byte) (i : s.hub.PortsSound live) :
    (s.setRx p rx).hub.PortsSound live := i.setCtl_stays present (i.ctl p) rfl rfl

theorem framingError (present : (s.hub.ctl p).state ≠ .absent) (i : s.hub.PortsSound live) :
    (s.framingError p).hub.PortsSound live := by
  have cleared := i.setRx present []
  have stays := PortCtl.refused_state (c := (s.setRx p []).hub.ctl p) frameErrorFrame
  have ctl : (s.setRx p []).hub.ctl p = { s.hub.ctl p with rx := [] } := Hub.ctl_setCtl_self _ _ _
  unfold State.framingError
  rw [State.hub_withHub, Hub.refuse_eq _ _ _ (by rw [ctl])]
  exact cleared.setCtl_stays (by rwa [ctl]) ((cleared.ctl p).refused _) stays.1 stays.2

theorem frameComplete (l : live p) (len : Byte) (body : List Byte) (i : s.hub.PortsSound live) :
    (s.frameComplete p len body).hub.PortsSound live := by
  have present := (i p).2 l
  have handled := fun tag kind payload => (i.setRx present []).handleFrame (p := p) tag kind payload
  have error := i.framingError present
  unfold State.frameComplete
  dsimp only
  split
  · split
    · split
      · split
        · exact handled _ _ _
        · exact error
      · exact handled _ _ _
    · exact error
  · exact error

theorem receiveChar (l : live p) (c : Byte) (i : s.hub.PortsSound live) : (s.receiveChar p c).hub.PortsSound live := by
  have present := (i p).2 l
  unfold State.receiveChar
  split
  · split
    · exact i.setRx present _
    · exact i
  · split
    · exact i.setRx present _
    · exact i.framingError present
  · split
    · exact i.setRx present _
    · exact i.frameComplete l _ _

/-- The characters arrive on a port that is not ABSENT, and it stays so meanwhile. -/
theorem receiveChars (chars : List Byte) (i : s.hub.PortsSound live) :
    (s.receiveChars p chars).hub.PortsSound live := by
  unfold State.receiveChars
  split
  · exact i
  · next present =>
    exact Hub.PortsSound.mono
      (foldl_keeps (I := fun t : State => t.hub.PortsSound (andLive live p))
        (fun j c => j.receiveChar (.inr rfl) c) chars (i.add present))
      fun _ => Or.inl

theorem gapTimeout (i : s.hub.PortsSound live) : (s.gapTimeout p).hub.PortsSound live := by
  unfold State.gapTimeout
  split
  · exact i
  · next partialFrame => exact i.framingError (i.present PortCtl.rx partialFrame)

/-! ## The events of a port -/

theorem heldExpiry (i : s.hub.PortsSound live) : (s.heldExpiry p).hub.PortsSound live := by
  unfold State.heldExpiry
  split
  · exact i.endHold p (.inr rfl)
  · exact i

theorem presentRises (i : s.hub.PortsSound live) : (s.presentRises p).hub.PortsSound live := by
  unfold State.presentRises
  split
  · exact i.setCtl_works (.inl rfl) (i.ctl p)
  · exact i

theorem presentFalls (gone : ¬ live p) (i : s.hub.PortsSound live) : (s.presentFalls p).hub.PortsSound live := by
  have dropped : ((s.withHub (s.hub.resetPort p)).dropHolds p).hub.PortsSound live :=
    foldl_keeps (I := fun t : State => t.hub.PortsSound live) (fun j q => (road live).unhold p q j) _
      (i.resetPort gone)
  unfold State.presentFalls
  split
  · exact i
  · refine (road live).endPool ?_
    unfold State.dropRight
    split <;> exact dropped

theorem sent (i : s.hub.PortsSound live) : (s.sent p).hub.PortsSound live := by
  have sends : ∀ {f}, (s.hub.ctl p).sending = some f → (s.hub.ctl p).sending ≠ none := fun e => by rw [e]; simp
  unfold State.sent
  split
  · exact i
  · next e => exact (i.idleTx (sends e)).startNext p
  · next e => exact (i.answerSent (sends e)).startNext p
  · next e =>
    split
    · exact (i.idleTx (sends e)).startNext p
    · next filled => exact Hub.PortsSound.startNext ((road live).endPool (i.removeHead filled)) p

/-- A port sampled at the release of RESET is READY, or as it was (R164). -/
theorem sample (present : PortSet) (i : s.hub.PortsSound fun _ => False) :
    Hub.PortsSound (fun _ => False)
      { s.hub with ports := s.hub.ports.mapIdx fun i u => u.sample (present.getLsbD i) } := by
  intro q
  refine ⟨?_, False.elim⟩
  unfold Hub.ctl Hub.dist
  rw [Hub.ports_sampled]
  unfold PortUnit.sample
  split
  · exact PortUnit.sound_of_works (.inl rfl) (i.ctl q) (i.dist q)
  · exact (i q).1

end Hub.PortsSound

/-! ## Every step -/

section step
open Hub.PortsSound

/-- Every command keeps every port sound. -/
theorem exec_keeps_portsSound {c : Instr} {s t : State} (sound : s.portsSound) (e : exec c s = .next t) :
    t.portsSound := by
  have released : ∀ {f : State → State},
      (∀ u : State, u.hub.PortsSound (fun _ => False) → (f u).hub.PortsSound (fun _ => False)) →
      whileReleased f s = .next t → t.portsSound := fun keeps e => by
    rw [State.portsSound_iff] at sound ⊢
    exact whileReleased_keeps (fun u => u.hub.PortsSound fun _ => False) keeps sound e
  have k := road fun _ => False
  cases c with
  | hardwareReset => cases e; exact State.portsSound_reset
  | resetRelease encA encB m0 m1 present =>
    cases e
    split
    · exact (State.portsSound_iff _).2 ((s.portsSound_iff.1 sound).sample present)
    · exact sound
  | encoderTransition a b => exact released (fun _ => k.transition a b) e
  | speedWindowEnd => exact released (f := State.speedWindow) (fun _ i => i) e
  | markerEdge m level => exact released (fun _ => k.markerChange m level) e
  | stepTimerExpiry => exact released (fun _ => k.timerExpiry) e
  | channelWindowEnd c first rest => exact released (fun _ i => k.endPool (k.windowEnd c first rest i)) e
  | channelSettleEnd c => exact released (fun _ i => k.endPool (k.settleEnd c i)) e
  | shadowCopyCompletion => exact released (f := fun u => { u with plan := u.plan.copyDone }) (fun _ i => i) e
  | editIdleTimerExpiry =>
    refine released (f := State.idleExpiry) (fun u i => ?_) e
    unfold State.idleExpiry
    split <;> exact i
  | heldTakeExpiry p => exact released (fun _ i => i.heldExpiry) e
  | presentAsserted p => exact released (fun _ i => i.presentRises) e
  | portReset p => exact released (fun _ i => i.presentFalls id) e
  | frameError p chars => exact released (fun _ i => i.receiveChars chars) e
  | interCharacterGapTimeout p => exact released (fun _ i => i.gapTimeout) e
  | unknownRequest p tag kind =>
    refine released (f := fun u => if knownKind kind then u else u.doUnknown p tag kind) (fun u i => ?_) e
    split
    · exact i
    · exact i.doUnknown tag kind
  | busyRefusal p tag kind =>
    refine released (f := fun u => if (u.hub.ctl p).state = .answering then u.receive p tag kind (fun v => v) else u)
      (fun u i => ?_) e
    split
    · exact receive tag kind id i
    · exact i
  | frameSent p => exact released (fun _ i => i.sent) e
  | identify p tag => exact released (fun _ => request tag _ id) e
  | readStatus p tag => exact released (fun _ => request tag _ id) e
  | configurePort p tag hold threshold => exact released (fun _ i => i.doConfigurePort tag hold threshold) e
  | subscribe p tag entry matchVal mask enabled =>
    exact released (fun _ i => i.doSubscribe tag entry matchVal mask enabled) e
  | general p tag flag => exact released (fun _ i => i.doGeneral tag flag) e
  | take p tag count => exact released (fun _ i => i.doTake tag count) e
  | snapshot p tag probe => exact released (fun _ i => i.doSnapshot tag probe) e
  | cancelSnapshot p tag => exact released (fun _ i => i.doCancelSnapshot tag) e
  | readPlanEntry p tag role item index =>
    exact released (fun _ => request tag _ (readEntry role item index)) e
  | claimEdit p tag => exact released (fun _ => request tag _ claim) e
  | releaseEdit p tag => exact released (fun _ => request tag _ releaseRight) e
  | writeStepSettings p tag =>
    exact released (fun _ => rightRequest tag _ (writeShadow _ _)) e
  | writeProbe p tag => exact released (fun _ => rightRequest tag _ (writeShadow _ _)) e
  | writeGate p tag => exact released (fun _ => rightRequest tag _ (writeShadow _ _)) e
  | writeBlock p tag => exact released (fun _ => rightRequest tag _ (writeShadow _ _)) e
  | commit p tag => exact released (fun _ => rightRequest tag _ commitBy) e
  | abandon p tag => exact released (fun _ => rightRequest tag _ abandonBy) e
  | setScaler p tag num den =>
    exact released (fun _ => rightRequest tag _ (setScalerBy num den)) e
  | setPosition p tag position => exact released (fun _ => rightRequest tag _ fun j => j) e
  | setMarker p tag => exact released (fun _ => rightRequest tag _ (setMarkerBy _ _ _ _ _ _)) e
  | startRun p tag limit label =>
    exact released (fun _ => request tag _ ((road _).startBy limit label)) e
  | stopRun p tag => exact released (fun _ => request tag _ (road _).stopBy) e
  | holdProbe p tag probe =>
    exact released (fun _ => request tag _ ((road _).holdBy p probe)) e
  | releaseProbe p tag probe =>
    exact released (fun _ => request tag _ ((road _).unholdBy p probe)) e

end step

end Sys2Proof.Machine

namespace Sys2Proof.Proofs
open Sys2Proof.Machine

/-- Settles O59: every operation on the ports keeps every port sound, and so does every arrival of a record. -/
theorem stepsKeepThePortsSound : Obligations.StepsKeepThePortsSound := by
  intro s t sound e
  unfold step at e
  split at e
  · cases e; exact sound
  · next c rest _ => exact exec_keeps_portsSound (s := { s with pending := rest }) sound e

end Sys2Proof.Proofs
end

section
/-! SUPPORT. Distribution: what an offer does to a queue, the stream keys, and which records a port wants. Settled here:
O26, O27. -/

namespace Sys2Proof.Machine

/-! ## The offer to a queue (R142, R143) -/

section offer
variable {d : PortDist} (seq : BitVec 32) (n : Nat)

/-- With no gap open and room for one, the record is appended. -/
theorem PortDist.offer_appends (noGap : d.gap = none) (room : d.queue.length < 256) :
    d.offer seq n = ({ d with queue := d.queue ++ [.ref n] }, true) := by
  unfold PortDist.offer
  rw [noGap]
  exact if_pos room

/-- With no gap open and the queue full, a gap of the record alone is opened. -/
theorem PortDist.offer_opens (noGap : d.gap = none) (full : 256 ≤ d.queue.length) :
    d.offer seq n = ({ d with gap := some { count := 1, first := seq, last := seq } }, false) := by
  unfold PortDist.offer
  rw [noGap]
  exact if_neg (Nat.not_lt.2 full)

/-- With a gap open and room for two, the gap is closed into its marker and the record is appended behind it. -/
theorem PortDist.offer_closes {g : Gap} (gap : d.gap = some g) (room : d.queue.length + 2 ≤ 256) :
    d.offer seq n = ({ d with queue := d.queue ++ [.marker g, .ref n], gap := none }, true) := by
  unfold PortDist.offer
  rw [gap]
  exact if_pos room

/-- With a gap open and no room for two, the record joins the gap. -/
theorem PortDist.offer_joins {g : Gap} (gap : d.gap = some g) (full : 256 < d.queue.length + 2) :
    d.offer seq n = ({ d with gap := some (g.grow seq) }, false) := by
  unfold PortDist.offer
  rw [gap]
  exact if_neg (Nat.not_le.2 full)

theorem Gap.grow_eq (g : Gap) :
    g.grow seq =
      { count := if g.count = 0xFFFFFFFF#32 then 0xFFFFFFFF#32 else g.count + 1, first := g.first, last := seq } := by
  unfold Gap.grow
  split
  · next largest => rw [largest]
  · rfl

end offer

/-! ## Stream keys and wants (R137, R138) -/

/-- The general records are those without a stream key. -/
theorem Body.streamKey_eq_none_iff (b : Body) : b.streamKey = none ↔ b.general = true := by
  cases b <;> simp [Body.streamKey, Body.general]

/-- The key of a shot is 16 times its rail, plus the probe within it. -/
theorem Body.streamKey_shot (x : Shot) :
    (Body.shot x).streamKey =
      some (BitVec.ofNat 6 ((if x.grant.rail = .a then 0 else 16) + withinRail x.grant.probe)) := rfl

/-- The difference of two keys is 0 under a mask when they agree in every bit of the mask. -/
theorem masked_xor_eq_zero_iff {w : Nat} (x y mask : BitVec w) :
    (x ^^^ y) &&& mask = 0 ↔ ∀ i < w, mask.getLsbD i = true → x.getLsbD i = y.getLsbD i := by
  rw [BitVec.eq_of_getLsbD_eq_iff]
  refine forall₂_congr fun i _ => ?_
  rw [BitVec.getLsbD_and, BitVec.getLsbD_xor, BitVec.ofNat_eq_ofNat, BitVec.getLsbD_zero]
  cases mask.getLsbD i <;> cases x.getLsbD i <;> cases y.getLsbD i <;> decide

theorem Subscription.hits_iff (x : Subscription) (key : BitVec 6) :
    x.hits key = true ↔ x.enabled = true ∧ ∀ i < 6, x.mask.getLsbD i = true → key.getLsbD i = x.matchVal.getLsbD i := by
  unfold Subscription.hits
  rw [Bool.and_eq_true, decide_eq_true_eq, masked_xor_eq_zero_iff]

/-- A subscription of the port that hits is one of its eight entries. -/
theorem PortDist.any_hits_iff (d : PortDist) (key : BitVec 6) :
    d.subs.toList.any (fun x => x.hits key) = true ↔ ∃ i : Fin 8, (d.subs[i]).hits key = true := by
  rw [List.any_eq_true]
  constructor
  · rintro ⟨x, mem, hits⟩
    obtain ⟨i, small, rfl⟩ := Vector.mem_iff_getElem.1 (Vector.mem_toList_iff.1 mem)
    exact ⟨⟨i, small⟩, hits⟩
  · rintro ⟨i, hits⟩
    exact ⟨_, Vector.mem_toList_iff.2 (Vector.getElem_mem i.isLt), hits⟩

theorem PortDist.wants_iff (d : PortDist) (n : Nat) (r : Rec) :
    d.wants n r = true ↔
      (∃ key, r.body.streamKey = some key ∧ ∃ i : Fin 8, (d.subs[i]).hits key = true) ∨
      (r.body.general = true ∧ d.general = true) ∨ ((∃ x, r.body = .shot x) ∧ ∃ p, d.snap = .claimed p n) := by
  have keyless := r.body.streamKey_eq_none_iff
  rw [← Body.isShot_iff, ← SnapEntry.boundTo_iff]
  unfold PortDist.wants
  cases key : r.body.streamKey with
  | some key =>
    have special : r.body.general ≠ true := fun general => by rw [keyless.2 general] at key; cases key
    rw [Bool.or_eq_true, Bool.and_eq_true, PortDist.any_hits_iff]
    simp [special]
  | none =>
    have general := keyless.1 key
    have notShot : r.body.isShot = false := by cases b : r.body <;> simp_all [Body.general, Body.isShot]
    simp [general, notShot]

end Sys2Proof.Machine

namespace Sys2Proof.Proofs
open Sys2Proof.Machine

/-- Settles O26, by whether a gap is open and whether there is room. -/
theorem queuesTakeOffersOrKeepGaps : Obligations.QueuesTakeOffersOrKeepGaps :=
  ⟨fun _ seq n => PortDist.offer_appends seq n, fun _ seq n => PortDist.offer_opens seq n,
    fun _ _ seq n => PortDist.offer_closes seq n, fun _ _ seq n gap full => by
      rw [PortDist.offer_joins seq n gap full, Gap.grow_eq]⟩

/-- Settles O27: the keys by the kind of the record, and the wants by whether it has a key. -/
theorem portsWantWhatTheyAskedFor : Obligations.PortsWantWhatTheyAskedFor := by
  refine ⟨fun x rail low => ?_, fun x rail high => ?_, fun run => rfl, fun run => rfl,
    fun b => b.streamKey_eq_none_iff.2, Subscription.hits_iff, PortDist.wants_iff, PortDist.reset_wants_nothing⟩
  · rw [Body.streamKey_shot, if_pos rail, withinRail, if_pos low]
  · rw [Body.streamKey_shot, if_neg (by rw [rail]; decide), withinRail, if_neg (Nat.not_lt.2 high)]

end Sys2Proof.Proofs
end

section
/-! SUPPORT. The requests that replace what the Distribution Unit and the Port Controller hold for their port: the
fields in range, and the settings they stand for. Settled here: O36, O37. -/

namespace Sys2Proof.Machine

/-! ## The checks of the fields (R139, R140, R146, R172) -/

theorem configureChecks_eq (hold threshold : BitVec 16) :
    configureChecks hold threshold =
      [decide (hold.toNat ≤ 2000), decide (1 ≤ threshold.toNat ∧ threshold.toNat ≤ 256)] := by
  simp [configureChecks, inRange]

theorem subscribeChecks_eq (entry matchVal mask enabled : Byte) :
    subscribeChecks entry matchVal mask enabled =
      [decide (entry.toNat ≤ 7), decide (matchVal.toNat ≤ 63), decide (mask.toNat ≤ 63),
        decide (enabled.toNat ≤ 1)] := by
  simp [subscribeChecks, isFlag, inRange]

/-- A request with one field names it when it is out of range. -/
theorem firstBad_single (ok : Bool) : firstBad [ok] = if ok = true then none else some 1 := rfl

/-- CONFIGURE PORT names the hold time when it is too long, and else the threshold (R172). -/
theorem firstBad_configureChecks {hold threshold : BitVec 16}
    (bad : 2000 < hold.toNat ∨ threshold.toNat = 0 ∨ 256 < threshold.toNat) :
    firstBad (configureChecks hold threshold) = some (if 2000 < hold.toNat then 1 else 2) := by
  rw [configureChecks_eq, firstBad_eq_some_iff]
  by_cases long : 2000 < hold.toNat
  · rw [if_pos long]
    refine ⟨le_rfl, congrArg some (decide_eq_false (Nat.not_le.2 long)), fun m small => absurd small m.not_lt_zero⟩
  · have range : ¬ (1 ≤ threshold.toNat ∧ threshold.toNat ≤ 256) := by omega
    rw [if_neg long]
    refine ⟨by decide, congrArg some (decide_eq_false range), fun m small => ?_⟩
    obtain rfl : m = 0 := Nat.lt_one_iff.1 small
    exact congrArg some (decide_eq_true (Nat.not_lt.1 long))

/-! ## The settings that fields in range stand for -/

/-- A byte carries a value of 6 bits whole. -/
theorem setWidth_setWidth_six (x : BitVec 6) : (x.setWidth 8).setWidth 6 = x := by
  rw [BitVec.setWidth_setWidth_of_le x (by decide), BitVec.setWidth_eq]

theorem toNat_setWidth_six_le (x : BitVec 6) : (x.setWidth 8).toNat ≤ 63 := by
  rw [BitVec.toNat_setWidth_of_le (by decide)]
  exact Nat.le_of_lt_succ x.isLt

theorem toNat_entry (i : Fin 8) : (BitVec.ofNat 8 i.val).toNat = i.val :=
  toNat_word 7 (Nat.le_of_lt_succ i.isLt) (by decide)

theorem subscribe_passes (i : Fin 8) (x : Subscription) :
    firstBad (subscribeChecks (BitVec.ofNat 8 i.val) (x.matchVal.setWidth 8) (x.mask.setWidth 8) (flagByte x.enabled)) =
      none := by
  rw [firstBad_eq_none_iff, subscribeChecks_eq, toNat_entry]
  simp only [List.forall_mem_cons, decide_eq_true_eq]
  exact ⟨Nat.le_of_lt_succ i.isLt, toNat_setWidth_six_le _, toNat_setWidth_six_le _, flagByte_le _, nofun⟩

/-- The fields of SUBSCRIBE stand for the entry they carry (R139). -/
theorem Hub.subscribe_carried (h : Hub) (p : Port) (i : Fin 8) (x : Subscription) :
    h.subscribe p (BitVec.ofNat 8 i.val) (x.matchVal.setWidth 8) (x.mask.setWidth 8) (flagByte x.enabled) =
      h.setDist p { h.dist p with subs := (h.dist p).subs.set i x } := by
  have entry : Fin.ofNat 8 (BitVec.ofNat 8 i.val).toNat = i := by
    rw [toNat_entry]
    exact Fin.ext (Nat.mod_eq_of_lt i.isLt)
  unfold Hub.subscribe
  simp only [entry, flagOf_flagByte, setWidth_setWidth_six]

/-! ## The requests on a port that takes them -/

/-- The hold time has no part in the taking of a request. -/
theorem PortCtl.taken_holdTime (c : PortCtl) (n : Nat) :
    PortCtl.taken { c with holdTime := n } = { c.taken with holdTime := n } := by
  obtain ⟨state, rx, refusals, answers, take, sending, holdTime, timer⟩ := c
  unfold PortCtl.taken PortCtl.endHeld
  by_cases held : state = .heldTake
  · rw [if_pos held, if_pos held]
    cases take with
    | none => rfl
    | some j =>
      unfold PortCtl.nextFrame
      cases sending with
      | some f => rfl
      | none => cases refusals <;> cases answers <;> rfl
  · rw [if_neg held, if_neg held]

/-- A request that replaces what the Distribution Unit holds for its port is answered in the part with it replaced. -/
theorem State.request_setDist {s : State} {p : Port} (h : s.takesOn p) (tag kind : Byte)
    {serve : State → State × Reply} {d : PortDist} {r : Reply}
    (hs : ∀ c : PortCtl, serve (s.withHub (s.hub.setCtl p c)) = (s.withHub ((s.hub.setCtl p c).setDist p d), r)) :
    ∃ t, whileReleased (fun x => x.request p tag kind serve) s = .next t ∧
      (s.withHub (s.hub.setDist p d)).answeredBy p (.response tag kind r) t := by
  refine State.request_answers h tag kind serve _ r ((hs _).trans ?_)
  rw [Hub.setDist_setCtl, State.hub_withHub, State.withHub_withHub, Hub.ctl_setDist]

/-- What the Distribution Unit holds for a port does not follow its controller. -/
theorem State.dist_taking (s : State) (p : Port) (c : PortCtl) :
    (s.withHub (s.hub.setCtl p c)).hub.dist p = s.hub.dist p := Hub.dist_setCtl _ _ _ _

theorem Hub.configure_setCtl (h : Hub) (p : Port) (c : PortCtl) (hold threshold : Nat) :
    (h.setCtl p c).configure p hold threshold =
      (h.putDist p { h.dist p with threshold := threshold }).setCtl p { c with holdTime := hold } := by
  unfold Hub.configure
  rw [Hub.setCtl_setCtl, Hub.ctl_setCtl_self, Hub.dist_setCtl, Hub.putDist_setCtl]

theorem State.configurePort_done {s : State} {p : Port} (h : s.takesOn p) (tag : Byte) {hold threshold : BitVec 16}
    (short : hold.toNat ≤ 2000) (range : 1 ≤ threshold.toNat ∧ threshold.toNat ≤ 256) :
    ∃ t, exec (.configurePort p tag hold threshold) s = .next t ∧
      (s.withHub ((s.hub.putDist p { s.hub.dist p with threshold := threshold.toNat }).setCtl p
        { s.hub.ctl p with holdTime := hold.toNat })).answeredBy p (.response tag 0x03 (.done .nothing)) t := by
  have passes : firstBad (configureChecks hold threshold) = none := by
    rw [firstBad_eq_none_iff, configureChecks_eq]
    simp [short, range]
  refine State.request_answers h tag 0x03 _ _ (.done .nothing) ?_
  rw [passes]
  dsimp only
  rw [State.hub_withHub, Hub.configure_setCtl, State.withHub_withHub, State.withHub_withHub, State.hub_withHub,
    Hub.ctl_setCtl_self, Hub.setCtl_setCtl,
    PortCtl.taken_holdTime _ hold.toNat]

theorem State.subscribe_done {s : State} {p : Port} (h : s.takesOn p) (tag : Byte) (i : Fin 8) (x : Subscription) :
    ∃ t, exec (.subscribe p tag (BitVec.ofNat 8 i.val) (x.matchVal.setWidth 8) (x.mask.setWidth 8)
        (flagByte x.enabled)) s = .next t ∧
      (s.withHub (s.hub.setDist p { s.hub.dist p with subs := (s.hub.dist p).subs.set i x })).answeredBy p
        (.response tag 0x04 (.done .nothing)) t := by
  refine State.request_setDist h tag 0x04 fun c => ?_
  rw [subscribe_passes]
  dsimp only
  rw [Hub.subscribe_carried, State.dist_taking]
  rfl

theorem State.general_done {s : State} {p : Port} (h : s.takesOn p) (tag : Byte) (on : Bool) :
    ∃ t, exec (.general p tag (flagByte on)) s = .next t ∧
      (s.withHub (s.hub.setDist p { s.hub.dist p with general := on })).answeredBy p
        (.response tag 0x05 (.done .nothing)) t := by
  refine State.request_setDist h tag 0x05 fun c => ?_
  have passes : firstBad [isFlag (flagByte on)] = none := by cases on <;> rfl
  rw [passes]
  dsimp only
  rw [flagOf_flagByte, State.dist_taking]
  rfl

/-! ## SNAPSHOT (R146) -/

theorem probe_passes (i : ProbeNo) : firstBad [inRange 0 23 (BitVec.ofNat 8 i.val).toNat] = none := by
  rw [firstBad_single, toNat_probe, if_pos ((inRange_eq_true _ _ _).2 ⟨Nat.zero_le _, Nat.le_of_lt_succ i.isLt⟩)]

/-- An entry that is not CLAIMED comes to wait for the probe. -/
theorem State.snapshotBy_free {s : State} {p : Port} (free : ∀ q n, (s.hub.dist p).snap ≠ .claimed q n) (i : ProbeNo) :
    s.snapshotBy p (BitVec.ofNat 8 i.val) = (s.withHub (s.hub.setSnap p (.waiting i)), .done .nothing) := by
  unfold State.snapshotBy
  rw [probe_passes, probeOf_ofNat]
  dsimp only
  split
  · rfl
  · rfl
  · next q n claimed => exact absurd claimed (free q n)

theorem State.snapshotBy_claimed {s : State} {p : Port} {q : ProbeNo} {n : Nat}
    (claimed : (s.hub.dist p).snap = .claimed q n) (i : ProbeNo) :
    s.snapshotBy p (BitVec.ofNat 8 i.val) = (s, .refused .busy) := by
  unfold State.snapshotBy
  rw [probe_passes, claimed]

theorem State.snapshotBy_range {probe : Byte} (high : 23 < probe.toNat) (s : State) (p : Port) :
    s.snapshotBy p probe = (s, .refused (.range 1)) := by
  have outside : ¬ inRange 0 23 probe.toNat = true := fun inside => by
    obtain ⟨-, low⟩ := (inRange_eq_true _ _ _).1 inside
    omega
  unfold State.snapshotBy
  rw [firstBad_single, if_neg outside]

end Sys2Proof.Machine

namespace Sys2Proof.Proofs
open Sys2Proof.Machine

/-- Settles O36: each request in range by the settings its fields stand for, out of range by the first field named. -/
theorem portSettingsAreReplaced : Obligations.PortSettingsAreReplaced := by
  refine ⟨fun s p tag hold threshold h short low high => State.configurePort_done h tag short ⟨low, high⟩,
    fun s p tag hold threshold h bad => ?_, fun s p tag i x h => State.subscribe_done h tag i x,
    fun s p tag entry matchVal mask enabled n h first => ?_, fun s p tag on h => State.general_done h tag on,
    fun s p tag flag h high => ?_⟩
  · refine State.request_unchanged h tag 0x03 ?_
    rw [firstBad_configureChecks bad]
  · refine State.request_unchanged h tag 0x04 ?_
    rw [← subscribeChecks_eq, ← firstBad_eq_some_iff] at first
    rw [first]
  · have outside : ¬ isFlag flag = true := fun inside => by
      obtain ⟨-, low⟩ := (inRange_eq_true _ _ _).1 inside
      omega
    refine State.request_unchanged h tag 0x05 ?_
    rw [firstBad_single, if_neg outside]

/-- Settles O37, by what the entry is; the probe of a request is checked first. -/
theorem snapshotRequests : Obligations.SnapshotRequests := by
  refine ⟨fun s p tag i h free => ?_, fun s p tag i q n h claimed => ?_, fun s p tag probe h high => ?_,
    fun s p tag h => ?_⟩
  · refine State.request_setDist h tag 0x07 fun c => ?_
    rw [State.snapshotBy_free (by rwa [State.dist_taking]), Hub.setSnap, State.dist_taking]
    rfl
  · exact State.request_unchanged h tag 0x07 (State.snapshotBy_claimed (by rwa [State.dist_taking]) i)
  · exact State.request_unchanged h tag 0x07 (State.snapshotBy_range high _ p)
  · refine State.request_setDist h tag 0x08 fun c => ?_
    rw [Hub.setSnap, State.dist_taking]
    rfl

end Sys2Proof.Proofs
end

section
/-! SUPPORT. The frames of a port: the choice of the next frame by what waits, the frames of a TAKE, TAKE itself, and
what follows a frame sent. Settled here: O32, O33. -/

namespace Sys2Proof.Machine

/-! ## The choice of the next frame (R167) -/

section nextFrame
variable {c : PortCtl} {f : TxFrame} {rest : List TxFrame}

/-- The oldest refusal goes first. -/
theorem PortCtl.nextFrame_refusal (idle : c.sending = none) (refusals : c.refusals = f :: rest) :
    c.nextFrame = { c with refusals := rest, sending := some (.refusal f) } := by
  unfold PortCtl.nextFrame
  rw [idle, refusals]

/-- With no refusal waiting, the answer's next frame. -/
theorem PortCtl.nextFrame_answer (idle : c.sending = none) (noRefusal : c.refusals = [])
    (answers : c.answers = f :: rest) :
    c.nextFrame = { c with answers := rest, sending := some (.answer f) } := by
  unfold PortCtl.nextFrame
  rw [idle, noRefusal, answers]

end nextFrame

section startNext
variable {h : Hub} {p : Port} {c : PortCtl}

/-- A controller set with a frame that waits chooses it. -/
theorem Hub.startNext_setCtl (waits : c.refusals ≠ [] ∨ c.answers ≠ []) :
    (h.setCtl p c).startNext p = h.setCtl p c.nextFrame := by
  rw [Hub.startNext_eq _ _ (by rwa [Hub.ctl_setCtl_self]), Hub.setCtl_setCtl, Hub.ctl_setCtl_self]

/-- With no frame waiting and no TAKE to go on with, the transmit side stays idle. -/
theorem Hub.startNext_still (idle : (h.ctl p).sending = none) (noRefusal : (h.ctl p).refusals = [])
    (noAnswer : (h.ctl p).answers = []) (noTake : (h.ctl p).take = none ∨ (h.ctl p).state ≠ .answering) :
    h.startNext p = h := by
  unfold Hub.startNext
  rw [idle, noRefusal, noAnswer]
  dsimp only
  split
  · next take => exact if_neg (noTake.resolve_left (by rw [take]; simp))
  · rfl

/-- With no frame waiting, a TAKE being answered goes on. -/
theorem Hub.startNext_take {j : TakeJob} (idle : (h.ctl p).sending = none) (noRefusal : (h.ctl p).refusals = [])
    (noAnswer : (h.ctl p).answers = []) (take : (h.ctl p).take = some j) (answering : (h.ctl p).state = .answering) :
    h.startNext p = h.sendTake p j := by
  unfold Hub.startNext
  rw [idle, noRefusal, noAnswer, take]
  exact if_pos answering

end startNext

/-! ## The frames of a TAKE (R144, R168) -/

section sendTake
variable {h : Hub} {p : Port} {j : TakeJob}

/-- With its count used up, or nothing left to send, a TAKE ends with END. -/
theorem Hub.sendTake_ends (ended : j.left = 0 ∨ ((h.dist p).queue = [] ∧ (h.dist p).gap = none)) :
    h.sendTake p j =
      h.setCtl p
        { h.ctl p with
          take := none
          sending := some (.answer (.endTake j.tag j.sent (h.dist p).queue.length (h.dist p).gap.isSome)) } := by
  unfold Hub.sendTake
  split
  · rfl
  · next left =>
    obtain ⟨queue, gap⟩ := ended.resolve_left left
    rw [queue]
    dsimp only
    rw [gap, Hub.sendEnd, queue, gap]

/-- A reference at the head is sent as the record of its slot. -/
theorem Hub.sendTake_record {n : Nat} {rest : List Entry} {seq : BitVec 32} {r : Rec} {x : Slot} (left : j.left ≠ 0)
    (queue : (h.dist p).queue = .ref n :: rest) (slot : h.pool.slot n = some x) (content : x.content = .record seq r) :
    h.sendTake p j =
      h.setCtl p
        { h.ctl p with sending := some (.entry (.record j.tag seq r (x.page.map (fun y => y.samples)))) } := by
  have frame : h.pool.recordFrame j.tag n = some (.record j.tag seq r (x.page.map (fun y => y.samples))) := by
    unfold Pool.recordFrame
    rw [slot]
    dsimp only
    rw [content]
  unfold Hub.sendTake
  rw [if_neg left, queue]
  dsimp only
  rw [frame]
  rfl

/-- A marker at the head is sent as its gap. -/
theorem Hub.sendTake_marker {g : Gap} {rest : List Entry} (left : j.left ≠ 0)
    (queue : (h.dist p).queue = .marker g :: rest) :
    h.sendTake p j = h.setCtl p { h.ctl p with sending := some (.entry (.gap j.tag g)) } := by
  unfold Hub.sendTake
  rw [if_neg left, queue]
  rfl

/-- The gap of an empty queue is closed into its marker, which is sent. -/
theorem Hub.sendTake_closes {g : Gap} (left : j.left ≠ 0) (queue : (h.dist p).queue = [])
    (gap : (h.dist p).gap = some g) :
    h.sendTake p j =
      (h.putDist p { h.dist p with queue := [.marker g], gap := none }).setCtl p
        { h.ctl p with sending := some (.entry (.gap j.tag g)) } := by
  unfold Hub.sendTake
  rw [if_neg left, queue]
  dsimp only
  rw [gap]
  dsimp only
  rw [Hub.send, Hub.ctl_putDist]

end sendTake

/-! ## TAKE (R168, R169) -/

section take
variable {s : State} {p : Port}

/-- A controller that has taken a request answers it with a frame. -/
theorem Hub.answerFrame_taken (h : Hub) (p : Port) (f : TxFrame) :
    (h.setCtl p (h.ctl p).taken).answerFrame p f = h.setCtl p ((h.ctl p).answered f) := by
  rw [Hub.answerFrame_eq, Hub.setCtl_setCtl, Hub.ctl_setCtl_self, PortCtl.answered]

theorem State.exec_take (h : s.takesOn p) (tag count : Byte) :
    exec (.take p tag count) s =
      .next (s.withHub ((s.hub.setCtl p (s.hub.ctl p).taken).takeEntries p tag count)) := by
  refine (whileReleased_released h.1 (State.doTake p tag count)).trans ?_
  rw [State.doTake, State.receive_takes h]
  rfl

theorem take_passes {count : Byte} (low : 1 ≤ count.toNat) (high : count.toNat ≤ 32) :
    firstBad [inRange 1 32 count.toNat] = none := by
  rw [firstBad_single, if_pos ((inRange_eq_true _ _ _).2 ⟨low, high⟩)]

/-- The controller of a port that answers a TAKE, before it chooses a frame. -/
def PortCtl.answering (c : PortCtl) (tag count : Byte) : PortCtl :=
  { c.taken with state := .answering, take := some { tag := tag, left := count.toNat, sent := 0 } }

/-- A TAKE with entries or a gap to send is answered. -/
theorem State.exec_take_answers (h : s.takesOn p) (tag : Byte) {count : Byte} (low : 1 ≤ count.toNat)
    (high : count.toNat ≤ 32) (filled : (s.hub.dist p).queue ≠ [] ∨ (s.hub.dist p).gap ≠ none) :
    exec (.take p tag count) s =
      .next (s.withHub ((s.hub.setCtl p ((s.hub.ctl p).answering tag count)).startNext p)) := by
  rw [State.exec_take h, Hub.takeEntries, take_passes low high]
  dsimp only
  rw [Hub.dist_setCtl, if_neg (not_and_or.2 filled), Hub.setCtl_setCtl, Hub.ctl_setCtl_self]
  rfl

/-- A READY port whose transmit side is idle begins to send the entries of its TAKE. -/
theorem State.exec_take_sends (low : s.resetLow = false) (ready : (s.hub.ctl p).state = .ready) {tag count : Byte}
    (least : 1 ≤ count.toNat) (most : count.toNat ≤ 32) (idle : (s.hub.ctl p).sending = none)
    (noRefusal : (s.hub.ctl p).refusals = []) (noAnswer : (s.hub.ctl p).answers = [])
    (filled : (s.hub.dist p).queue ≠ [] ∨ (s.hub.dist p).gap ≠ none) :
    exec (.take p tag count) s =
      .next (s.withHub
        ((s.hub.setCtl p
            { s.hub.ctl p with
              state := .answering
              rx := []
              take := some { tag := tag, left := count.toNat, sent := 0 } }).sendTake p
          { tag := tag, left := count.toNat, sent := 0 })) := by
  have taken : (s.hub.ctl p).taken = { s.hub.ctl p with rx := [] } := if_neg (by rw [ready]; decide)
  rw [State.exec_take_answers ⟨low, .inl ready⟩ tag least most filled, PortCtl.answering, taken, Hub.startNext_take] <;>
    rw [Hub.ctl_setCtl_self]
  · exact idle
  · exact noRefusal
  · exact noAnswer

end take

/-! ## After a frame (R145, R166 to R168) -/

section sent
variable {s : State} {p : Port} {f : TxFrame}

theorem State.exec_frameSent (low : s.resetLow = false) (p : Port) : exec (.frameSent p) s = .next (s.sent p) :=
  whileReleased_released low fun t => t.sent p

theorem State.sent_refusal (sends : (s.hub.ctl p).sending = some (.refusal f)) :
    s.sent p = s.withHub ((s.hub.idleTx p).startNext p) := by
  unfold State.sent
  rw [sends]

theorem State.sent_answer (sends : (s.hub.ctl p).sending = some (.answer f)) :
    s.sent p = s.withHub ((s.hub.answerSent p).startNext p) := by
  unfold State.sent
  rw [sends]

theorem State.sent_entry {e : Entry} {rest : List Entry} (sends : (s.hub.ctl p).sending = some (.entry f))
    (queue : (s.hub.dist p).queue = e :: rest) :
    s.sent p =
      ((s.withHub (s.hub.removeHead p e rest)).endPool).withHub
        ((s.withHub (s.hub.removeHead p e rest)).endPool.hub.startNext p) := by
  unfold State.sent
  rw [sends]
  dsimp only
  rw [queue]

/-- With the last frame of its answer the port returns to READY; else it stays in its state (R166). -/
theorem Hub.answerSent_eq (h : Hub) (p : Port) :
    h.answerSent p =
      h.setCtl p
        { h.ctl p with
          state :=
            if (h.ctl p).state = .answering ∧ (h.ctl p).answers = [] ∧ (h.ctl p).take = none then .ready
            else (h.ctl p).state
          sending := none } := by
  unfold Hub.answerSent Hub.idleTx
  split <;> rfl

/-- A frame that is not the last of its answer leaves the port in its state. -/
theorem Hub.answerSent_more {h : Hub}
    (more : (h.ctl p).state ≠ .answering ∨ (h.ctl p).answers ≠ [] ∨ (h.ctl p).take ≠ none) :
    h.answerSent p = h.idleTx p :=
  if_neg fun ⟨answering, noAnswer, noTake⟩ =>
    more.elim (· answering) fun goesOn => goesOn.elim (· noAnswer) (· noTake)

end sent

end Sys2Proof.Machine

namespace Sys2Proof.Proofs
open Sys2Proof.Machine

/-- Settles O33: out of range, on an empty queue by the hold time, and on other queues by the head entry. -/
theorem takeSendsHoldsOrEnds : Obligations.TakeSendsHoldsOrEnds := by
  refine ⟨fun s p tag count h bad => ?_, fun s p tag count h low high queue gap now => ?_,
    fun s p tag count h low high queue gap later => ?_,
    fun s p tag count h low high filled => State.exec_take_answers h tag low high filled,
    fun s p tag count low ready least most idle noRefusal noAnswer =>
      ⟨fun g rest queue => ?_, fun n rest seq r x queue slot content => ?_, fun g queue gap => ?_⟩⟩
  · refine ⟨_, State.exec_take h tag count, ?_⟩
    rw [Hub.takeEntries, firstBad_single, if_neg fun inside => bad ((inRange_eq_true _ _ _).1 inside)]
    exact congrArg s.withHub (Hub.answerFrame_taken _ _ _)
  · refine ⟨_, State.exec_take h tag count, ?_⟩
    rw [Hub.takeEntries, take_passes low high]
    dsimp only
    rw [Hub.dist_setCtl, if_pos ⟨queue, gap⟩, Hub.ctl_setCtl_self, PortCtl.holdTime_taken, if_pos now]
    exact congrArg s.withHub (Hub.answerFrame_taken _ _ _)
  · rw [State.exec_take h, Hub.takeEntries, take_passes low high]
    dsimp only
    rw [Hub.dist_setCtl, if_pos ⟨queue, gap⟩, Hub.ctl_setCtl_self, PortCtl.holdTime_taken, if_neg later,
      Hub.setCtl_setCtl]
  · rw [State.exec_take_sends low ready least most idle noRefusal noAnswer (.inl (by simp [queue])),
      Hub.sendTake_marker (g := g) (rest := rest), Hub.setCtl_setCtl, Hub.ctl_setCtl_self]
    · exact Nat.ne_of_gt least
    · rwa [Hub.dist_setCtl]
  · rw [State.exec_take_sends low ready least most idle noRefusal noAnswer (.inl (by simp [queue])),
      Hub.sendTake_record (n := n) (rest := rest) (seq := seq) (r := r) (x := x), Hub.setCtl_setCtl,
      Hub.ctl_setCtl_self]
    · exact Nat.ne_of_gt least
    · rwa [Hub.dist_setCtl]
    · exact slot
    · exact content
  · rw [State.exec_take_sends low ready least most idle noRefusal noAnswer (.inr (by simp [gap])),
      Hub.sendTake_closes (g := g), Hub.putDist_setCtl, Hub.setCtl_setCtl, Hub.ctl_setCtl_self, Hub.dist_setCtl]
    · exact Nat.ne_of_gt least
    · rwa [Hub.dist_setCtl]
    · rwa [Hub.dist_setCtl]

/-- Settles O32, by the frame sent and by what waits behind it. -/
theorem frameSentChoosesTheNextFrame : Obligations.FrameSentChoosesTheNextFrame := by
  refine ⟨fun s p f g rest low sends refusals => ?_, fun s p f g rest low sends noRefusal answers => ?_,
    fun s p f low sends noRefusal noAnswer noTake => ?_, fun s p f g rest low sends refusals => ?_,
    fun s p f g rest low sends noRefusal answers => ?_, fun s p f low sends noRefusal noAnswer noTake answering => ?_,
    fun s p f low sends noRefusal noAnswer notAnswering => ?_,
    fun s p f j low sends noRefusal noAnswer take answering => ?_,
    fun s p f e rest j low sends queue take => ?_, fun h p j idle answering take => ⟨fun waits => ?_,
      fun noRefusal noAnswer => ?_⟩⟩
  · rw [State.exec_frameSent low, State.sent_refusal sends, Hub.idleTx,
      Hub.startNext_setCtl (.inl (by simp [refusals])), PortCtl.nextFrame_refusal (f := g) (rest := rest) rfl]
    exact refusals
  · rw [State.exec_frameSent low, State.sent_refusal sends, Hub.idleTx,
      Hub.startNext_setCtl (.inr (by simp [answers])), PortCtl.nextFrame_answer (f := g) (rest := rest) rfl]
    · exact noRefusal
    · exact answers
  · rw [State.exec_frameSent low, State.sent_refusal sends, Hub.idleTx, Hub.startNext_still] <;>
      rw [Hub.ctl_setCtl_self]
    · exact noRefusal
    · exact noAnswer
    · exact noTake
  · rw [State.exec_frameSent low, State.sent_answer sends, Hub.answerSent_eq,
      Hub.startNext_setCtl (.inl (by simp [refusals])), PortCtl.nextFrame_refusal (f := g) (rest := rest) rfl]
    exact refusals
  · rw [State.exec_frameSent low, State.sent_answer sends, Hub.answerSent_more (.inr (.inl (by simp [answers]))),
      Hub.idleTx, Hub.startNext_setCtl (.inr (by simp [answers])), PortCtl.nextFrame_answer (f := g) (rest := rest) rfl]
    · exact noRefusal
    · exact answers
  · rw [State.exec_frameSent low, State.sent_answer sends, Hub.answerSent_eq, if_pos ⟨answering, noAnswer, noTake⟩,
      Hub.startNext_still] <;> rw [Hub.ctl_setCtl_self]
    · exact noRefusal
    · exact noAnswer
    · exact .inl noTake
  · rw [State.exec_frameSent low, State.sent_answer sends, Hub.answerSent_more (.inl notAnswering), Hub.idleTx,
      Hub.startNext_still] <;> rw [Hub.ctl_setCtl_self]
    · exact noRefusal
    · exact noAnswer
    · exact .inr notAnswering
  · rw [State.exec_frameSent low]
    obtain sends | sends := sends
    · rw [State.sent_refusal sends, Hub.idleTx]
    · rw [State.sent_answer sends, Hub.answerSent_more (.inr (.inr (by simp [take]))), Hub.idleTx]
  · refine ⟨(s.hub.setCtl p
        { s.hub.ctl p with sending := none, take := (s.hub.ctl p).take.map TakeJob.oneSent }).putDist p
        { s.hub.dist p with queue := rest }, _, rfl, fun q other => ?_, ?_, ?_, rfl, ?_⟩
    · rw [Hub.putDist, Hub.setDist, Hub.ports_setPort, if_neg other, Hub.setCtl, Hub.ports_setPort, if_neg other]
    · rw [Hub.dist_putDist, if_pos rfl]
      rfl
    · rw [Hub.ctl_putDist, Hub.ctl_setCtl_self, take]
      rfl
    · rw [State.exec_frameSent low, State.sent_entry sends queue]
      cases e <;> rfl
  · exact Hub.startNext_eq h p waits
  · have goes := Hub.startNext_take idle noRefusal noAnswer take answering
    exact ⟨fun ended => goes.trans (Hub.sendTake_ends ended),
      fun _ _ _ _ _ left queue slot content => goes.trans (Hub.sendTake_record left queue slot content),
      fun _ _ left queue => goes.trans (Hub.sendTake_marker left queue),
      fun _ left queue gap => goes.trans (Hub.sendTake_closes left queue gap)⟩

end Sys2Proof.Proofs
end

section
/-! SUPPORT. HOLD PROBE and RELEASE PROBE by the hold set they find: what each does to it, when it gives a record, and
the probe out of range that both refuse. Settled here: O49, O51. -/

namespace Sys2Proof.Machine

section holds
variable {s : State} {p : Port} {i : ProbeNo}

/-! ## The field (R160, R161) -/

theorem probe_outside {probe : Byte} (high : 23 < probe.toNat) : firstBad [inRange 0 23 probe.toNat] = some 1 := by
  have outside : ¬ inRange 0 23 probe.toNat = true := fun inside => by
    obtain ⟨-, low⟩ := (inRange_eq_true _ _ _).1 inside
    omega
  rw [firstBad_single, if_neg outside]

theorem State.holdBy_range {probe : Byte} (high : 23 < probe.toNat) (s : State) (p : Port) :
    s.holdBy p probe = (s, .refused (.range 1)) := by
  rw [State.holdBy, probe_outside high]

theorem State.unholdBy_range {probe : Byte} (high : 23 < probe.toNat) (s : State) (p : Port) :
    s.unholdBy p probe = (s, .refused (.range 1)) := by
  rw [State.unholdBy, probe_outside high]

/-! ## A probe held (R160) -/

/-- A port joins a hold set that is not empty: no record, and no group to re-form. -/
theorem State.holdBy_more (more : s.run.holds[i] ≠ 0) (p : Port) :
    s.holdBy p (BitVec.ofNat 8 i.val) = (s.setHold i (portAdd p s.run.holds[i]), .done .nothing) := by
  rw [State.holdBy, probe_passes, probeOf_ofNat]
  dsimp only
  rw [State.hold, if_neg more]

/-! ## A probe released (R161) -/

/-- What RELEASE PROBE does turns on whether the port is in the hold set. -/
theorem State.unholdBy_eq (s : State) (p : Port) (i : ProbeNo) :
    s.unholdBy p (BitVec.ofNat 8 i.val) =
      if portIn p s.run.holds[i] then ((s.unhold p i).endPool, .done .nothing) else (s, .refused .notHeld) := by
  rw [State.unholdBy, probe_passes]
  simp only [probeOf_ofNat]

/-- A port in the hold set of a probe is taken out of it, with a record if the set becomes empty. -/
theorem State.unhold_inSet (inSet : portIn p s.run.holds[i] = true) :
    s.unhold p i =
      if portRemove p s.run.holds[i] = 0 then
        (s.setHold i (portRemove p s.run.holds[i])).handRecord (.hold i .released p)
      else s.setHold i (portRemove p s.run.holds[i]) := by
  have left : (s.setHold i (portRemove p s.run.holds[i])).run.holds[i] = portRemove p s.run.holds[i] := by
    simp [State.setHold]
  rw [State.unhold, if_pos inSet]
  dsimp only
  rw [left]

theorem State.unholdBy_done (inSet : portIn p s.run.holds[i] = true) :
    s.unholdBy p (BitVec.ofNat 8 i.val) = ((s.unhold p i).endPool, .done .nothing) := by
  rw [State.unholdBy_eq, if_pos inSet]

theorem State.unholdBy_notHeld (out : portIn p s.run.holds[i] = false) :
    s.unholdBy p (BitVec.ofNat 8 i.val) = (s, .refused .notHeld) := by
  rw [State.unholdBy_eq, if_neg (Bool.eq_false_iff.1 out)]

/-- A release reaches the controllers by its record alone. -/
theorem State.keepsCtl_unhold (q : Port) (s : State) (p : Port) (i : ProbeNo) :
    Hub.KeepsCtl q s.hub (s.unhold p i).hub := by
  by_cases inSet : portIn p s.run.holds[i] = true
  · rw [State.unhold_inSet inSet]
    split
    · exact State.keepsCtl_handRecord q (s.setHold i _) _
    · exact .refl q s.hub
  · rw [State.unhold, if_neg inSet]
    exact .refl q s.hub

end holds

end Sys2Proof.Machine

namespace Sys2Proof.Proofs
open Sys2Proof.Machine

/-- Settles O49: a set that was not empty only grows; one that was empty gives its record, and the re-forming that
follows finds no group that names the probe. -/
theorem holdProbeAddsThePort : Obligations.HoldProbeAddsThePort := by
  refine ⟨fun s p tag i h more => ?_, fun s p tag i h empty free => ?_, fun s p tag probe h high => ?_⟩
  · refine State.request_answers h tag 0x0D _ (s.setHold i (portAdd p s.run.holds[i])) _ (State.holdBy_more ?_ p)
    exact more
  · have unnamed : ((s.holdNoted p i).seq (railOf i)).PassesOver (s.holdNoted p i).bank i := by
      rw [State.seq_holdNoted]
      exact fun requesting => free.resolve_left (not_not_intro requesting)
    obtain ⟨t, run, answered⟩ := State.exec_holdProbe h tag empty
    rw [State.reform_unnamed unnamed] at answered
    exact ⟨t, run, answered⟩
  · exact State.request_unchanged h tag 0x0D (State.holdBy_range high _ p)

/-- Settles O51, by whether the port is in the set and whether others stay in it; the probe is checked first. -/
theorem releaseProbeRemovesThePort : Obligations.ReleaseProbeRemovesThePort := by
  refine ⟨fun s p tag i h inSet => ?_, fun s p tag i h out => ?_, fun s p tag probe h high => ?_⟩
  · let v := s.withHub (s.hub.setCtl p (s.hub.ctl p).taken)
    have taken : v.hub.ctl p = (s.hub.ctl p).taken := Hub.ctl_setCtl_self _ _ _
    have ready : (v.hub.ctl p).state ≠ .heldTake := by
      rw [taken, PortCtl.state_taken h.2]
      decide
    have kept := ((State.keepsCtl_unhold p v p i).trans (State.keepsCtl_endPool p _)) ready
    obtain ⟨t, run, answered⟩ := State.request_kept h tag 0x0E
      (serve := fun x => x.unholdBy p (BitVec.ofNat 8 i.val)) (State.unholdBy_done (s := v) inSet) (kept.trans taken)
    rw [State.unhold_inSet (s := v) inSet] at answered
    exact ⟨t, run, answered⟩
  · exact State.request_unchanged h tag 0x0E (State.unholdBy_notHeld out)
  · exact State.request_unchanged h tag 0x0E (State.unholdBy_range high _ p)

end Sys2Proof.Proofs
end

section
/-! SUPPORT. The receive side of a port: the buffer of a frame, what the characters of a frame come to, and what becomes
of a frame by its check and its kind. Settled here: O30. -/

namespace Sys2Proof.Machine

section receive
variable {s : State} {p : Port}

/-! ## The receive buffer -/

theorem State.setRx_setRx (s : State) (p : Port) (rx rx' : List Byte) : (s.setRx p rx).setRx p rx' = s.setRx p rx' := by
  unfold State.setRx
  rw [State.withHub_withHub, State.hub_withHub, Hub.setCtl_setCtl, Hub.ctl_setCtl_self]

theorem State.ctl_setRx (s : State) (p : Port) (rx : List Byte) :
    (s.setRx p rx).hub.ctl p = { s.hub.ctl p with rx := rx } := Hub.ctl_setCtl_self _ _ _

theorem State.rx_setRx (s : State) (p : Port) (rx : List Byte) : ((s.setRx p rx).hub.ctl p).rx = rx := by
  rw [State.ctl_setRx]

/-- An empty buffer emptied is as it was. -/
theorem State.setRx_nil (empty : (s.hub.ctl p).rx = []) : s.setRx p [] = s := by
  have same : { s.hub.ctl p with rx := [] } = s.hub.ctl p := by rw [← empty]
  unfold State.setRx
  rw [same, Hub.setCtl_self, State.withHub_self]

/-! ## Framing errors (R165) -/

/-- A framing error forms its refusal, and nothing else changes. -/
theorem State.framingError_refused (s : State) (p : Port) :
    s.refusedBy p (.response 0 0 (.refused .frameError)) (s.framingError p) := by
  unfold State.framingError State.refusedBy
  rw [Hub.refuse_eq _ _ _ (by rw [State.rx_setRx]), State.ctl_setRx]
  unfold State.setRx
  rw [State.withHub_withHub, State.hub_withHub, Hub.setCtl_setCtl]
  rfl

/-- The characters received of a frame in error have no part in what it comes to. -/
theorem State.framingError_setRx (s : State) (p : Port) (rx : List Byte) :
    (s.setRx p rx).framingError p = s.framingError p := by
  unfold State.framingError
  rw [State.setRx_setRx]

theorem State.frameComplete_setRx (s : State) (p : Port) (rx : List Byte) (len : Byte) (body : List Byte) :
    (s.setRx p rx).frameComplete p len body = s.frameComplete p len body := by
  unfold State.frameComplete
  rw [State.setRx_setRx, State.framingError_setRx]

/-! ## Characters (R165 steps 1 to 3) -/

theorem State.receiveChar_start (empty : (s.hub.ctl p).rx = []) : s.receiveChar p 0xA5 = s.setRx p [0xA5] := by
  unfold State.receiveChar
  rw [empty]
  exact if_pos rfl

/-- A character before a start character is discarded. -/
theorem State.receiveChar_outside (empty : (s.hub.ctl p).rx = []) {c : Byte} (other : c ≠ 0xA5) :
    s.receiveChar p c = s := by
  unfold State.receiveChar
  rw [empty]
  exact if_neg other

/-- A length from 4 to 62 goes on with the frame; another is a framing error. -/
theorem State.receiveChar_length (s : State) (p : Port) (a len : Byte) :
    (s.setRx p [a]).receiveChar p len =
      if 4 ≤ len.toNat ∧ len.toNat ≤ 62 then s.setRx p [a, len] else s.framingError p := by
  unfold State.receiveChar
  rw [State.rx_setRx]
  dsimp only
  rw [State.setRx_setRx, State.framingError_setRx]

/-- A character after the length joins the frame, which is complete when it has as many as its length. -/
theorem State.receiveChar_body (s : State) (p : Port) (a len c : Byte) (body : List Byte) :
    (s.setRx p (a :: len :: body)).receiveChar p c =
      if (body ++ [c]).length < len.toNat then s.setRx p (a :: len :: (body ++ [c]))
      else s.frameComplete p len (body ++ [c]) := by
  unfold State.receiveChar
  rw [State.rx_setRx]
  dsimp only
  rw [State.setRx_setRx, State.frameComplete_setRx]

/-- As many characters as are missing of a frame make it complete. -/
theorem State.receive_rest (s : State) (p : Port) (a len : Byte) {rest : List Byte} (missing : rest ≠ [])
    (body : List Byte) (whole : body.length + rest.length = len.toNat) :
    rest.foldl (fun t c => t.receiveChar p c) (s.setRx p (a :: len :: body)) = s.frameComplete p len (body ++ rest) := by
  induction rest generalizing body with
  | nil => exact absurd rfl missing
  | cons c rest ih =>
    rw [List.length_cons] at whole
    rw [List.foldl_cons, State.receiveChar_body, List.length_append, List.length_singleton]
    cases rest with
    | nil => exact if_neg (Nat.not_lt.2 whole.ge)
    | cons d rest =>
      rw [List.length_cons] at whole
      rw [if_pos (by omega), ih (List.cons_ne_nil d rest) (body ++ [c])
        (by rw [List.length_append, List.length_singleton, List.length_cons]; omega), List.append_assoc,
        List.singleton_append]

theorem State.receiveChars_present (present : (s.hub.ctl p).state ≠ .absent) (chars : List Byte) :
    s.receiveChars p chars = chars.foldl (fun t c => t.receiveChar p c) s := if_neg present

/-- The characters of a frame of a length in range come to what becomes of the complete frame. -/
theorem State.receiveChars_frame (present : (s.hub.ctl p).state ≠ .absent) (empty : (s.hub.ctl p).rx = []) {len : Byte}
    (least : 4 ≤ len.toNat) (most : len.toNat ≤ 62) {body : List Byte} (whole : body.length = len.toNat) :
    s.receiveChars p (0xA5 :: len :: body) = s.frameComplete p len body := by
  have missing : body ≠ [] := List.ne_nil_of_length_pos (by omega)
  rw [State.receiveChars_present present, List.foldl_cons, List.foldl_cons, State.receiveChar_start empty,
    State.receiveChar_length, if_pos ⟨least, most⟩, State.receive_rest s p 0xA5 len missing [] (by simpa using whole)]
  rfl

/-- On a port that is ABSENT characters are ignored (R164). -/
theorem State.receiveChars_absent (absent : (s.hub.ctl p).state = .absent) (chars : List Byte) :
    s.receiveChars p chars = s := if_pos absent

/-! ## Complete frames (R165 steps 3 and 4, R174) -/

/-- The characters after the length of a frame with a good check: what the check covers, and the check (R174). -/
def frameBody (len : Byte) (inner : List Byte) : List Byte := inner ++ checkBytes (len :: inner)

theorem length_frameBody (len : Byte) (inner : List Byte) : (frameBody len inner).length = inner.length + 2 :=
  List.length_append

/-- The last two characters of a frame are its check; what its check covers stands before them. -/
theorem take_drop_check (inner : List Byte) {check : List Byte} (two : check.length = 2) :
    (inner ++ check).take ((inner ++ check).length - 2) = inner ∧
      (inner ++ check).drop ((inner ++ check).length - 2) = check := by
  have length : (inner ++ check).length - 2 = inner.length := by rw [List.length_append, two, Nat.add_sub_cancel]
  rw [length]
  exact ⟨List.take_left, List.drop_left⟩

theorem take_drop_frameBody (len : Byte) (inner : List Byte) :
    (frameBody len inner).take ((frameBody len inner).length - 2) = inner ∧
      (frameBody len inner).drop ((frameBody len inner).length - 2) = checkBytes (len :: inner) :=
  take_drop_check inner rfl

theorem State.frameComplete_badCheck (s : State) (p : Port) {len : Byte} {inner check : List Byte}
    (two : check.length = 2) (bad : check ≠ checkBytes (len :: inner)) :
    s.frameComplete p len (inner ++ check) = s.framingError p := by
  obtain ⟨covered, last⟩ := take_drop_check inner two
  unfold State.frameComplete
  rw [covered, last]
  exact if_neg bad

/-- A frame with a good check whose length does not fit its kind is in error. -/
theorem State.frameComplete_misfit (s : State) (p : Port) (len tag : Byte) {kind : Byte} {payload : List Byte} {n : Nat}
    (listed : payloadLength kind = some n) (misfit : payload.length ≠ n) :
    s.frameComplete p len (frameBody len (kind :: tag :: payload)) = s.framingError p := by
  obtain ⟨covered, last⟩ := take_drop_frameBody len (kind :: tag :: payload)
  unfold State.frameComplete
  rw [covered, last]
  dsimp only
  rw [if_pos rfl, listed]
  exact if_neg misfit

/-- A frame with a good check is handled when its length fits its kind, or its kind is not listed. -/
theorem State.frameComplete_fits (s : State) (p : Port) (len tag : Byte) {kind : Byte} {payload : List Byte}
    (fits : ∀ n, payloadLength kind = some n → payload.length = n) :
    s.frameComplete p len (frameBody len (kind :: tag :: payload)) =
      (s.setRx p []).handleFrame p tag kind payload := by
  obtain ⟨covered, last⟩ := take_drop_frameBody len (kind :: tag :: payload)
  unfold State.frameComplete
  rw [covered, last]
  dsimp only
  rw [if_pos rfl]
  split
  · next n listed => exact if_pos (fits n listed)
  · rfl

/-! ## The commands of the receive side -/

theorem State.exec_frameError (low : s.resetLow = false) (p : Port) (chars : List Byte) :
    exec (.frameError p chars) s = .next (s.receiveChars p chars) :=
  whileReleased_released low fun t => t.receiveChars p chars

/-- What changes nothing while RESET is released changes nothing at all (log 13). -/
theorem whileReleased_still {f : State → State} (still : f s = s) : whileReleased f s = .next s := by
  unfold whileReleased
  rw [still, ite_self]

theorem whileReleased_congr {f g : State → State} (same : f s = g s) : whileReleased f s = whileReleased g s := by
  unfold whileReleased
  rw [same]

theorem State.exec_gapTimeout (low : s.resetLow = false) (p : Port) :
    exec (.interCharacterGapTimeout p) s = .next (s.gapTimeout p) :=
  whileReleased_released low fun t => t.gapTimeout p

/-- Characters that come to a framing error form its refusal. -/
theorem State.exec_frameError_refused (low : s.resetLow = false) {chars : List Byte}
    (error : s.receiveChars p chars = s.framingError p) :
    ∃ t : State, exec (.frameError p chars) s = .next t ∧ s.refusedBy p (.response 0 0 (.refused .frameError)) t :=
  ⟨_, State.exec_frameError low p chars, error ▸ s.framingError_refused p⟩

end receive

end Sys2Proof.Machine

namespace Sys2Proof.Proofs
open Sys2Proof.Machine

/-- Settles O30, by where the error is found: at the length, at the check, at the kind, or at a gap. -/
theorem framingErrorsAreRefused : Obligations.FramingErrorsAreRefused := by
  refine ⟨fun s p len low present empty outside => State.exec_frameError_refused low ?_,
    fun s p len inner check low present empty least most two whole bad => State.exec_frameError_refused low ?_,
    fun s p len kind tag payload n low present empty least most whole listed misfit =>
      State.exec_frameError_refused low ?_,
    fun s p low inside => ⟨_, State.exec_gapTimeout low p, ?_⟩, fun s p low empty => ?_,
    fun s p c low empty other => ?_, fun s p chars absent => ?_⟩
  · rw [State.receiveChars_present present]
    show (s.receiveChar p 0xA5).receiveChar p len = s.framingError p
    rw [State.receiveChar_start empty, State.receiveChar_length, if_neg outside]
  · have length : (inner ++ check).length = len.toNat := by rw [List.length_append, two, whole]
    exact (State.receiveChars_frame present empty least most length).trans (s.frameComplete_badCheck p two bad)
  · have length : (frameBody len (kind :: tag :: payload)).length = len.toNat := by
      rw [length_frameBody]
      exact whole
    exact (State.receiveChars_frame present empty least most length).trans
      (s.frameComplete_misfit p len tag listed misfit)
  · rw [State.gapTimeout, if_neg inside]
    exact s.framingError_refused p
  · rw [State.exec_gapTimeout low, State.gapTimeout, if_pos empty]
  · refine (State.exec_frameError low p [c]).trans (congrArg _ ?_)
    by_cases absent : (s.hub.ctl p).state = .absent
    · exact State.receiveChars_absent absent _
    · exact (State.receiveChars_present absent _).trans (State.receiveChar_outside empty other)
  · exact whileReleased_still (f := fun t => t.receiveChars p chars) (State.receiveChars_absent absent chars)

end Sys2Proof.Proofs
end

section
/-! SUPPORT. Request frames: the fields of a payload as their bytes give them back, the request that a complete frame
acts as, and what a request comes to on a port that does not take it. Settled here: O28, O31. -/

namespace Sys2Proof.Machine

/-! ## Fields of a payload (11.2) -/

/-- The bytes of a number carry it up to their width. -/
theorem leValue_leBytes (n x : Nat) : leValue (leBytes n x) = x % 256 ^ n := by
  induction n generalizing x with
  | zero => rw [Nat.pow_zero, Nat.mod_one]; rfl
  | succ n ih =>
    have low : (BitVec.ofNat 8 x).toNat = x % 256 := BitVec.toNat_ofNat x 8
    rw [leBytes, leValue, ih, low, Nat.pow_succ', Nat.mod_mul]

/-- A field of a payload is read from its bytes as it was written. -/
theorem field_read {n w : Nat} (width : 256 ^ n = 2 ^ w) (x : BitVec w) :
    BitVec.ofNat w (leValue (leBytes n x.toNat)) = x := by
  rw [leValue_leBytes, width, Nat.mod_eq_of_lt x.isLt, BitVec.ofNat_toNat, BitVec.setWidth_eq]

/-- A field of two bytes, as a frame carries it, is the field. -/
theorem word16_bytes (x : BitVec 16) : word16 (.ofNat 8 x.toNat) (.ofNat 8 (x.toNat / 256)) = x :=
  field_read (n := 2) rfl x

theorem word24_bytes (x : BitVec 24) :
    word24 (.ofNat 8 x.toNat) (.ofNat 8 (x.toNat / 256)) (.ofNat 8 (x.toNat / 256 / 256)) = x :=
  field_read (n := 3) rfl x

theorem word32_bytes (x : BitVec 32) :
    word32 (.ofNat 8 x.toNat) (.ofNat 8 (x.toNat / 256)) (.ofNat 8 (x.toNat / 256 / 256))
      (.ofNat 8 (x.toNat / 256 / 256 / 256)) = x :=
  field_read (n := 4) rfl x

/-! ## Kinds (11.2) -/

/-- The kinds that table 11.2 does not list: 0, 15, and all above 25. -/
theorem unlisted_cases {kind : Byte} (unlisted : knownKind kind = false) :
    kind.toNat = 0 ∨ kind.toNat = 15 ∨ ∃ m, kind.toNat = m + 26 := by
  have outside : kind.toNat = 0 ∨ kind.toNat = 15 ∨ 26 ≤ kind.toNat := by
    simp only [knownKind, Bool.or_eq_false_iff, Bool.and_eq_false_iff, decide_eq_false_iff_not] at unlisted
    omega
  exact outside.imp_right (Or.imp_right Nat.exists_eq_add_of_le')

/-- A frame of an unlisted kind is unknown, whatever its payload (R166). -/
theorem State.handleFrame_unlisted {kind : Byte} (unlisted : knownKind kind = false) (s : State) (p : Port) (tag : Byte)
    (payload : List Byte) : s.handleFrame p tag kind payload = s.doUnknown p tag kind := by
  have outside := unlisted_cases unlisted
  unfold State.handleFrame
  generalize kind.toNat = k at outside ⊢
  obtain rfl | rfl | ⟨m, rfl⟩ := outside <;> rfl

theorem payloadLength_unlisted {kind : Byte} (unlisted : knownKind kind = false) : payloadLength kind = none := by
  have outside := unlisted_cases unlisted
  unfold payloadLength
  generalize kind.toNat = k at outside ⊢
  obtain rfl | rfl | ⟨m, rfl⟩ := outside <;> rfl

/-! ## Requests and their frames -/

section request
variable {c : Instr} {q : Request}

theorem unlisted_of_wellFormed {p : Port} {tag kind : Byte}
    (formed : (Instr.unknownRequest p tag kind).wellFormed = true) : knownKind kind = false := by
  simpa [Instr.wellFormed] using formed

theorem exec_unknownRequest {kind : Byte} (unlisted : knownKind kind = false) (p : Port) (tag : Byte) (s : State) :
    exec (.unknownRequest p tag kind) s = whileReleased (fun t => t.doUnknown p tag kind) s := by
  have run : exec (.unknownRequest p tag kind) s =
      whileReleased (fun t => if knownKind kind = true then t else t.doUnknown p tag kind) s := rfl
  rw [run, unlisted]
  rfl

/-- The payload of a request fits its kind, and its frame is not longer than 62 characters. -/
theorem requestOf_fits (hq : requestOf c = some q) (formed : c.wellFormed = true) :
    (∀ n, payloadLength q.kind = some n → q.payload.length = n) ∧ q.payload.length ≤ 58 := by
  cases c with
  | unknownRequest p tag kind =>
    cases hq
    rw [payloadLength_unlisted (unlisted_of_wellFormed formed)]
    exact ⟨nofun, Nat.zero_le _⟩
  | _ => cases hq <;> exact ⟨fun n listed => Option.some.inj listed, Nat.le_of_ble_eq_true rfl⟩

/-- A request acts as its frame is handled: each field is read as it was written (R165, R175). -/
theorem exec_handles (hq : requestOf c = some q) (formed : c.wellFormed = true) (s : State) :
    exec c s = whileReleased (fun t => t.handleFrame q.port q.tag q.kind q.payload) s := by
  cases c with
  | unknownRequest p tag kind =>
    cases hq
    have unlisted := unlisted_of_wellFormed formed
    simp only [exec_unknownRequest unlisted, State.handleFrame_unlisted unlisted]
  | configurePort p tag =>
    cases hq
    show _ = whileReleased (State.doConfigurePort p tag (word16 _ _) (word16 _ _)) s
    rw [word16_bytes, word16_bytes]
    rfl
  | startRun p tag =>
    cases hq
    show _ = whileReleased (State.doStartRun p tag (word24 _ _ _) (word16 _ _)) s
    rw [word24_bytes, word16_bytes]
    rfl
  | writeStepSettings p tag source =>
    cases hq
    show _ = whileReleased (State.doWriteStepSettings p tag source (word16 _ _) (word32 _ _ _ _) _ _ _) s
    rw [word16_bytes, word32_bytes]
    rfl
  | writeProbe p tag probe level =>
    cases hq
    show _ = whileReleased
      (State.doWriteProbe p tag probe level (word16 _ _) _ (word16 _ _) (word16 _ _) _ _) s
    rw [word16_bytes, word16_bytes, word16_bytes]
    rfl
  | writeGate p tag probe place occupied kind origin =>
    cases hq
    show _ = whileReleased
      (State.doWriteGate p tag probe place occupied kind origin (word16 _ _) (word16 _ _) (word16 _ _)) s
    rw [word16_bytes, word16_bytes, word16_bytes]
    rfl
  | setScaler p tag =>
    cases hq
    show _ = whileReleased (State.doSetScaler p tag (word16 _ _) (word16 _ _)) s
    rw [word16_bytes, word16_bytes]
    rfl
  | setPosition p tag =>
    cases hq
    show _ = whileReleased (State.doSetPosition p tag (word32 _ _ _ _)) s
    rw [word32_bytes]
    rfl
  | setMarker p tag marker enabled edge =>
    cases hq
    show _ = whileReleased (State.doSetMarker p tag marker enabled edge (word16 _ _) _ (word32 _ _ _ _)) s
    rw [word16_bytes, word32_bytes]
    rfl
  | _ => cases hq <;> rfl

/-- A request is received with its tag and kind, and the port state decides what becomes of it (R166). -/
theorem exec_receives (hq : requestOf c = some q) (formed : c.wellFormed = true) :
    ∃ act : State → State, ∀ s, exec c s = whileReleased (fun t => t.receive q.port q.tag q.kind act) s := by
  cases c with
  | unknownRequest p tag kind =>
    cases hq
    exact ⟨fun t => t.respond _ _ _ _, exec_unknownRequest (unlisted_of_wellFormed formed) p tag⟩
  | take => cases hq; exact ⟨_, fun _ => rfl⟩
  | _ => cases hq <;> exact ⟨fun t => t.respond _ _ _ _, fun _ => rfl⟩

/-- A command that stands for the frame of a listed kind as if it were unlisted is no event (log 6). -/
theorem exec_of_not_wellFormed (hq : requestOf c = some q) (illFormed : c.wellFormed ≠ true) (s : State) :
    exec c s = .next s := by
  cases c with
  | unknownRequest p tag kind =>
    have listed : knownKind kind = true := by simpa [Instr.wellFormed] using illFormed
    exact whileReleased_still (f := fun t => if knownKind kind = true then t else t.doUnknown p tag kind)
      (if_pos listed)
  | _ => cases hq <;> exact absurd rfl illFormed

/-! ## Requests on a port that does not take them (R164, R166) -/

theorem State.receive_absent {s : State} {p : Port} (absent : (s.hub.ctl p).state = .absent) (tag kind : Byte)
    (act : State → State) : s.receive p tag kind act = s := by
  unfold State.receive
  rw [absent]

/-- At a port that is ABSENT a request changes nothing. -/
theorem exec_request_absent {s : State} (hq : requestOf c = some q) (absent : (s.hub.ctl q.port).state = .absent) :
    exec c s = .next s := by
  by_cases formed : c.wellFormed = true
  · obtain ⟨act, receives⟩ := exec_receives hq formed
    rw [receives]
    exact whileReleased_still (f := fun t => t.receive q.port q.tag q.kind act) (State.receive_absent absent _ _ _)
  · exact exec_of_not_wellFormed hq formed s

/-- At a port that is ANSWERING a request is refused BUSY. -/
theorem exec_request_busy {s : State} (hq : requestOf c = some q) (formed : c.wellFormed = true)
    (low : s.resetLow = false) (answering : (s.hub.ctl q.port).state = .answering) :
    ∃ t : State, exec c s = .next t ∧ s.refusedBy q.port (.response q.tag q.kind (.refused .busy)) t := by
  obtain ⟨act, receives⟩ := exec_receives hq formed
  exact ⟨_, (receives s).trans (whileReleased_released low _), State.receive_busy answering q.tag q.kind act⟩

theorem exec_busyRefusal {s : State} {p : Port} (low : s.resetLow = false)
    (answering : (s.hub.ctl p).state = .answering) (tag kind : Byte) :
    exec (.busyRefusal p tag kind) s = .next (s.receive p tag kind fun t => t) :=
  (whileReleased_released low fun t =>
    if (t.hub.ctl p).state = .answering then t.receive p tag kind (fun u => u) else t).trans
    (congrArg Host.Outcome.next (if_pos answering))

/-! ## The characters of a request frame (11.1, R165) -/

/-- The characters of a request frame come to the handling of the request. -/
theorem State.receiveChars_request {s : State} (hq : requestOf c = some q) (formed : c.wellFormed = true)
    (present : (s.hub.ctl q.port).state ≠ .absent) (empty : (s.hub.ctl q.port).rx = []) :
    s.receiveChars q.port q.chars = s.handleFrame q.port q.tag q.kind q.payload := by
  obtain ⟨fits, short⟩ := requestOf_fits hq formed
  let len : Byte := BitVec.ofNat 8 (q.payload.length + 4)
  have length : len.toNat = q.payload.length + 4 := Nat.mod_eq_of_lt (by omega)
  have whole : (frameBody len (q.kind :: q.tag :: q.payload)).length = len.toNat := by
    rw [length_frameBody, length]
    rfl
  calc s.receiveChars q.port q.chars
      = s.frameComplete q.port len (frameBody len (q.kind :: q.tag :: q.payload)) :=
        State.receiveChars_frame present empty (by rw [length]; omega) (by rw [length]; omega) whole
    _ = (s.setRx q.port []).handleFrame q.port q.tag q.kind q.payload := s.frameComplete_fits q.port len q.tag fits
    _ = s.handleFrame q.port q.tag q.kind q.payload := by rw [State.setRx_nil empty]

end request

end Sys2Proof.Machine

namespace Sys2Proof.Proofs
open Sys2Proof.Machine

/-- Settles O31: the frame is received whole and its check is good; its fields are read as they were written. -/
theorem requestFramesActAsRequests : Obligations.RequestFramesActAsRequests := by
  intro c q s hq formed empty
  by_cases absent : (s.hub.ctl q.port).state = .absent
  · rw [exec_request_absent hq absent]
    exact whileReleased_still (f := fun t => t.receiveChars q.port q.chars) (State.receiveChars_absent absent _)
  · rw [exec_handles hq formed]
    exact whileReleased_congr (f := fun t => t.receiveChars q.port q.chars)
      (State.receiveChars_request hq formed absent empty)

/-- Settles O28, by the state of the port: ANSWERING, ABSENT, or one that takes the request. -/
theorem busyAndUnknownRequestsAreRefused : Obligations.BusyAndUnknownRequestsAreRefused := by
  refine ⟨fun s p f t => Iff.rfl, fun c q s hq formed low answering => exec_request_busy hq formed low answering,
    fun p tag kind s low answering => ⟨_, exec_busyRefusal low answering tag kind, State.receive_busy answering _ _ _⟩,
    fun c q s hq absent => exec_request_absent hq absent, fun s p tag kind takes unlisted => ?_⟩
  rw [exec_unknownRequest unlisted]
  exact State.request_unchanged takes tag kind rfl

end Sys2Proof.Proofs
end

section
/-! SUPPORT. The frame that a port sends while it carries a request out: every request leaves it as it is, so that the
END of a hold that a request frame ends goes out before the request's own answer. Settled here: O29. -/

namespace Sys2Proof.Machine

/-! ## The end of a hold (R170) -/

theorem PortCtl.endHeld_take {c : PortCtl} {j : TakeJob} (take : c.take = some j) (x : PortState) :
    c.endHeld x =
      PortCtl.nextFrame
        { c with
          state := x
          heldTimer := none
          take := none
          answers := c.answers ++ [.endTake j.tag 0 0 false] } := by
  unfold PortCtl.endHeld
  rw [take]

/-- The expiry of a held TAKE ends it (R170). -/
theorem State.exec_heldTakeExpiry {s : State} {p : Port} (low : s.resetLow = false)
    (held : (s.hub.ctl p).state = .heldTake) :
    exec (.heldTakeExpiry p) s = .next (s.withHub (s.hub.setCtl p ((s.hub.ctl p).endHeld .answering))) := by
  refine (whileReleased_released low fun t => t.heldExpiry p).trans (congrArg _ ?_)
  rw [State.heldExpiry, if_pos held, Hub.endHold_eq]

/-- With no other frame waiting, an idle transmit side sends END as the hold ends. -/
theorem PortCtl.sending_endHeld {c : PortCtl} {j : TakeJob} (take : c.take = some j) (idle : c.sending = none)
    (noRefusal : c.refusals = []) (noAnswer : c.answers = []) (x : PortState) :
    (c.endHeld x).sending = some (.answer (.endTake j.tag 0 0 false)) := by
  have waits : c.answers ++ [.endTake j.tag 0 0 false] = [.endTake j.tag 0 0 false] := by rw [noAnswer, List.nil_append]
  rw [PortCtl.endHeld_take take]
  refine congrArg PortCtl.sending (PortCtl.nextFrame_answer (rest := []) ?_ ?_ ?_)
  · exact idle
  · exact noRefusal
  · exact waits

/-- A request frame ends the hold as it is taken. -/
theorem PortCtl.sending_taken {c : PortCtl} {j : TakeJob} (held : c.state = .heldTake) (take : c.take = some j)
    (idle : c.sending = none) (noRefusal : c.refusals = []) (noAnswer : c.answers = []) :
    c.taken.sending = some (.answer (.endTake j.tag 0 0 false)) := by
  have ended : c.taken = PortCtl.endHeld { c with rx := [] } .ready := if_pos held
  rw [ended]
  exact PortCtl.sending_endHeld (c := { c with rx := [] }) take idle noRefusal noAnswer .ready

/-! ## A port that is sending a frame -/

/-- The port sends the frame and holds no TAKE. -/
def Hub.Sends (p : Port) (f : Sending) (h : Hub) : Prop := (h.ctl p).state ≠ .heldTake ∧ (h.ctl p).sending = some f

section sends
variable {p : Port} {f : Sending} {h k : Hub}

theorem Hub.Sends.same (sends : h.Sends p f) (same : k.ctl p = h.ctl p) : k.Sends p f := by
  unfold Hub.Sends
  rwa [same]

/-- What the Distribution Unit holds for a port has no part in what a port sends. -/
theorem Hub.Sends.setDist (sends : h.Sends p f) (q : Port) (d : PortDist) : (h.setDist q d).Sends p f :=
  sends.same (Hub.ctl_setDist h q p d)

/-- Records that reach the queue of a port leave the frame that it sends. -/
theorem Hub.Sends.road (p : Port) (f : Sending) : RoadInvariant (Hub.Sends p f) where
  pool _ sends := sends.same rfl
  fanOut n r sends := sends.same (Hub.keepsCtl_fanOut p _ n r sends.1)
  claim _ _ _ sends q := sends.setDist q _
  unclaim _ _ sends q := sends.setDist q _

/-- With a frame being sent the transmit side chooses none. -/
theorem Hub.startNext_sending (sending : (h.ctl p).sending = some f) : h.startNext p = h := by
  unfold Hub.startNext
  rw [sending]

theorem PortCtl.nextFrame_sending {c : PortCtl} (sending : c.sending = some f) : c.nextFrame = c := by
  unfold PortCtl.nextFrame
  rw [sending]

/-- An answer waits behind the frame that is being sent. -/
theorem Hub.sending_answerFrame (sending : (h.ctl p).sending = some f) (g : TxFrame) :
    ((h.answerFrame p g).ctl p).sending = some f := by
  rw [Hub.answerFrame_eq, Hub.ctl_setCtl_self, PortCtl.nextFrame_sending (f := f)] <;> exact sending

/-- So do the frames of a TAKE. -/
theorem Hub.sending_takeEntries (sending : (h.ctl p).sending = some f) (tag count : Byte) :
    ((h.takeEntries p tag count).ctl p).sending = some f := by
  unfold Hub.takeEntries
  split
  · exact Hub.sending_answerFrame sending _
  · split
    · split
      · exact Hub.sending_answerFrame sending _
      · rw [Hub.ctl_setCtl_self]
        exact sending
    · rw [Hub.startNext_sending (f := f)] <;> rw [Hub.ctl_setCtl_self] <;> exact sending

theorem Hub.Sends.configure (sends : h.Sends p f) (hold threshold : Nat) : (h.configure p hold threshold).Sends p f := by
  unfold Hub.Sends Hub.configure
  rwa [Hub.ctl_putDist, Hub.ctl_setCtl_self]

end sends

/-! ## The rules of requests that leave the pool and the ports as they are -/

section rules
variable (s : State)

theorem State.hub_writeShadow (checks : List Bool) (edit : Bank → Bank) : (s.writeShadow checks edit).1.hub = s.hub := by
  unfold State.writeShadow
  split
  · split <;> rfl
  · rfl

theorem State.hub_claim (p : Port) : (s.claim p).1.hub = s.hub := by
  unfold State.claim
  split
  · rfl
  · split <;> rfl

theorem State.hub_releaseRight (p : Port) : (s.releaseRight p).1.hub = s.hub := by
  unfold State.releaseRight
  split <;> rfl

theorem State.hub_abandonBy : s.abandonBy.1.hub = s.hub := by
  unfold State.abandonBy
  split <;> rfl

theorem State.hub_setScalerBy (num den : BitVec 16) : (s.setScalerBy num den).1.hub = s.hub := by
  unfold State.setScalerBy
  split
  · split <;> rfl
  · rfl

theorem State.hub_setMarkerBy (marker enabled edge : Byte) (lockout : BitVec 16) (action : Byte) (load : Pos) :
    (s.setMarkerBy marker enabled edge lockout action load).1.hub = s.hub := by
  unfold State.setMarkerBy
  split <;> rfl

theorem State.hub_readEntry (role item index : Byte) : (s.readEntry role item index).1.hub = s.hub := by
  unfold State.readEntry
  split <;> rfl

end rules

/-- COMMIT reaches the pool and the ports by the swap and what follows it. -/
theorem RoadInvariant.commitBy {I : Hub → Prop} (k : RoadInvariant I) {s : State} (p : Port) (i : I s.hub) :
    I (s.commitBy p).1.hub := by
  unfold State.commitBy
  split
  · split
    · exact i
    · exact k.endPool (k.afterCycles i)
  · exact i

/-! ## Requests on a port that sends a frame -/

section request
variable {s : State} {p : Port} {f : Sending}

theorem Hub.Sends.snapshotBy (sends : s.hub.Sends p f) (probe : Byte) : (s.snapshotBy p probe).1.hub.Sends p f := by
  unfold State.snapshotBy
  split
  · exact sends
  · split
    · exact sends.setDist p _
    · exact sends.setDist p _
    · exact sends

/-- What carries a request out on a port finds the frame that the port sends as it takes the request. -/
theorem State.receive_sends (takes : s.takesOn p) (sending : (s.hub.ctl p).taken.sending = some f) (tag kind : Byte)
    {act : State → State} (leaves : ∀ {t : State}, t.hub.Sends p f → ((act t).hub.ctl p).sending = some f) :
    ((s.receive p tag kind act).hub.ctl p).sending = some f := by
  rw [State.receive_takes takes]
  refine leaves ?_
  unfold Hub.Sends
  rw [State.hub_withHub, Hub.ctl_setCtl_self, PortCtl.state_taken takes.2]
  exact ⟨by decide, sending⟩

theorem State.request_sends (takes : s.takesOn p) (sending : (s.hub.ctl p).taken.sending = some f) (tag kind : Byte)
    {serve : State → State × Reply} (keeps : ∀ {t : State}, t.hub.Sends p f → (serve t).1.hub.Sends p f) :
    ((s.request p tag kind serve).hub.ctl p).sending = some f :=
  State.receive_sends takes sending tag kind fun sends => Hub.sending_answerFrame (keeps sends).2 _

theorem State.rightRequest_sends (takes : s.takesOn p) (sending : (s.hub.ctl p).taken.sending = some f)
    (tag kind : Byte) {body : State → State × Reply}
    (keeps : ∀ {t : State}, t.hub.Sends p f → (body t).1.hub.Sends p f) :
    ((s.request p tag kind fun t => t.withRight p body).hub.ctl p).sending = some f :=
  State.request_sends takes sending tag kind fun {t} sends => by
    unfold State.withRight
    split
    · dsimp only
      split <;> exact keeps sends
    · exact sends

/-- Whatever the request, its port goes on with the frame that it sends as it takes the request. -/
theorem State.handleFrame_sends (takes : s.takesOn p) (sending : (s.hub.ctl p).taken.sending = some f)
    (tag kind : Byte) (payload : List Byte) : ((s.handleFrame p tag kind payload).hub.ctl p).sending = some f := by
  have k := Hub.Sends.road p f
  have request := fun kind {serve} => State.request_sends takes sending tag kind (serve := serve)
  have same {serve : State → State × Reply} (hub : ∀ t, (serve t).1.hub = t.hub) {t : State} (sends : t.hub.Sends p f) :
      (serve t).1.hub.Sends p f := (hub t).symm ▸ sends
  have right {body : State → State × Reply} (kind : Byte) (hub : ∀ t, (body t).1.hub = t.hub) :=
    State.rightRequest_sends takes sending tag kind (body := body) (same hub)
  exact State.handleFrame_cases (P := fun t => (t.hub.ctl p).sending = some f) (s := s)
    (identify := request _ id)
    (readStatus := request _ id)
    (configurePort := fun _ _ => request _ fun sends => by
      split
      · exact sends
      · exact sends.configure _ _)
    (subscribe := fun _ _ _ _ => request _ fun sends => by
      split
      · exact sends
      · exact sends.setDist p _)
    (general := fun _ => request _ fun sends => by
      split
      · exact sends
      · exact sends.setDist p _)
    (take := fun count => State.receive_sends takes sending tag _ fun sends => Hub.sending_takeEntries sends.2 tag count)
    (snapshot := fun probe => request _ fun sends => sends.snapshotBy probe)
    (cancelSnapshot := request _ fun sends => sends.setDist p _)
    (readPlanEntry := fun _ _ _ => request _ (same fun t => t.hub_readEntry _ _ _))
    (claimEdit := request _ (same fun t => t.hub_claim p))
    (startRun := fun _ _ => request _ (k.startBy _ _))
    (stopRun := request _ k.stopBy)
    (holdProbe := fun _ => request _ (k.holdBy p _))
    (releaseProbe := fun _ => request _ (k.unholdBy p _))
    (releaseEdit := request _ (same fun t => t.hub_releaseRight p))
    (writeStepSettings := fun _ _ _ _ _ _ => right _ fun t => t.hub_writeShadow _ _)
    (writeProbe := fun _ _ _ _ _ _ _ _ => right _ fun t => t.hub_writeShadow _ _)
    (writeGate := fun _ _ _ _ _ _ _ _ => right _ fun t => t.hub_writeShadow _ _)
    (writeBlock := fun _ _ _ _ _ _ _ _ _ _ => right _ fun t => t.hub_writeShadow _ _)
    (commit := State.rightRequest_sends takes sending tag _ (k.commitBy p))
    (abandon := right _ State.hub_abandonBy)
    (setScaler := fun _ _ => right _ fun t => t.hub_setScalerBy _ _)
    (setPosition := fun _ => right _ fun _ => rfl)
    (setMarker := fun _ _ _ _ _ _ => right _ fun t => t.hub_setMarkerBy _ _ _ _ _ _)
    (kind := kind) (unknown := request kind id) (payload := payload)

end request

end Sys2Proof.Machine

namespace Sys2Proof.Proofs
open Sys2Proof.Machine

/-- Settles O29: the expiry ends the hold; a request ends it as it is taken, and END is sent while it is carried out. -/
theorem heldTakeEndsWithEmptyEnd : Obligations.HeldTakeEndsWithEmptyEnd := by
  refine ⟨fun s p j low held take => ?_, fun c q s j hq formed low held take idle noRefusal noAnswer => ?_⟩
  · rw [State.exec_heldTakeExpiry low held, PortCtl.endHeld_take take]
  · have sending := PortCtl.sending_taken held take idle noRefusal noAnswer
    exact ⟨_, (exec_handles hq formed s).trans (whileReleased_released low _),
      State.handleFrame_sends ⟨low, .inr held⟩ sending q.tag q.kind q.payload⟩

end Sys2Proof.Proofs
end

section
/-! SUPPORT. The queue of commands: every operation leaves it as it is, and a step takes its front command. Settled
here: O2, O1. -/

namespace Sys2Proof.Machine

/-! ## The pool, the rails and the channels -/

section outside
variable (s : State) (r : Rail)
@[simp] theorem State.pending_handRecord (b : Body) : (s.handRecord b).pending = s.pending :=
  (sameOutside_handRecord s b).pending
@[simp] theorem State.pending_endPool : s.endPool.pending = s.pending :=
  (sameOutside_endPool s).pending
@[simp] theorem State.pending_closeSkip : (s.closeSkip r).pending = s.pending :=
  (sameOutside_closeSkip s r).pending
@[simp] theorem State.pending_walkOn : (s.walkOn r).pending = s.pending :=
  (sameOutside_walkOn s r).pending
@[simp] theorem State.pending_pass : s.pass.pending = s.pending :=
  (sameOutside_pass s).pending
@[simp] theorem State.pending_releaseRail : (s.releaseRail r).pending = s.pending :=
  (sameOutside_releaseRail s r).pending
@[simp] theorem State.pending_movePointer : (s.movePointer r).pending = s.pending :=
  (sameOutside_movePointer s r).pending
@[simp] theorem State.pending_clearGroup : (s.clearGroup r).pending = s.pending :=
  (sameOutside_clearGroup s r).pending
end outside

/-! ## Steps, swaps and the end of a run -/

section track
variable (s : State)

@[simp] theorem State.pending_haltAtLimit : s.haltAtLimit.pending = s.pending := by
  unfold State.haltAtLimit
  split <;> rfl

@[simp] theorem State.pending_advanceBoundary : s.advanceBoundary.pending = s.pending := rfl

@[simp] theorem State.pending_issue : s.issue.pending = s.pending := by
  obtain ⟨u, arrived, halted⟩ := s.issue_outside
  exact (halted.pending.trans u.pending_haltAtLimit).trans arrived.pending

@[simp] theorem State.pending_complete : s.complete.pending = s.pending := by
  rw [State.complete_eq]

@[simp] theorem State.pending_completeIfDue : s.completeIfDue.pending = s.pending := by
  unfold State.completeIfDue
  split
  · exact s.pending_complete
  · rfl

@[simp] theorem State.pending_newPitch : s.newPitch.pending = s.pending := by
  unfold State.newPitch
  split <;> rfl

@[simp] theorem State.pending_swapBanks (sig : BitVec 32) (p : Port) : (s.swapBanks sig p).pending = s.pending :=
  State.pending_newPitch _

@[simp] theorem State.pending_issueReached (n : Nat) : (State.issueReached n s).pending = s.pending := by
  induction n generalizing s with
  | zero => rfl
  | succ n ih =>
    unfold State.issueReached
    split
    · simp [ih]
    · rfl

@[simp] theorem State.pending_swap : s.swap.pending = s.pending := by
  unfold State.swap
  split
  · simp
  · rfl

@[simp] theorem State.pending_swapIfDue : s.swapIfDue.pending = s.pending := by
  unfold State.swapIfDue
  split
  · exact s.pending_swap
  · rfl

/-- In whichever order completion and swap come, neither touches the queue (log 2). -/
@[simp] theorem State.pending_afterCycles : s.afterCycles.pending = s.pending := by
  unfold State.afterCycles
  split
  · dsimp only
    split <;> simp
  · simp

/-! ## The events of the track -/

@[simp] theorem State.pending_genTick (plus : Bool) : (s.genTick plus).pending = s.pending := by
  by_cases off : s.gen.state = .off
  · rw [State.genTick_off off]
  · obtain ⟨d, n, -, e⟩ := State.genTick_on off plus
    rw [e]
    split
    · simp [State.follow]
    · rfl

@[simp] theorem State.pending_ticks (plus : Bool) (n : Nat) : (State.ticks plus n s).pending = s.pending := by
  induction n generalizing s with
  | zero => rfl
  | succ n ih => exact (ih _).trans (State.pending_genTick _ plus)

@[simp] theorem State.pending_count (plus : Bool) : (s.count plus).pending = s.pending := State.pending_ticks _ plus _

theorem State.pending_transition (a b : Bool) : (s.transition a b).pending = s.pending := by
  unfold State.transition
  dsimp only
  split
  · rfl
  · simp
  · simp
  · simp [State.encoderFault]

theorem State.pending_markerChange (m : Marker) (level : Bool) : (s.markerChange m level).pending = s.pending := by
  unfold State.markerChange
  dsimp only
  split
  · simp [State.acceptMarker]
  · rfl

@[simp] theorem State.pending_restartStepTimer : s.restartStepTimer.pending = s.pending := by
  unfold State.restartStepTimer
  split <;> rfl

theorem State.pending_timerExpiry : s.timerExpiry.pending = s.pending := by
  unfold State.timerExpiry
  split
  · simp
  · rfl

/-! ## The events of the channels -/

@[simp] theorem State.pending_completeShot (b : Binding) (e : Evaluator) :
    (s.completeShot b e).pending = s.pending := by
  obtain same | ⟨n, h, coupled⟩ := s.completeShot_cases b e
  · rw [same]
  · obtain ⟨coup, hub, coupling⟩ := s.couple_eq b.probe (couplingHit e.results) n
    rw [coupled, coupling]
    rfl

@[simp] theorem State.pending_settleEnd (c : Chan) : (s.settleEnd c).pending = s.pending := by
  unfold State.settleEnd
  split
  · split
    · exact s.pending_setChan c _
    · simp [State.groupSettleEnd]
  · rfl

theorem State.pending_windowEnd (c : Chan) (first : Sample) (rest : List Sample) :
    (s.windowEnd c first rest).pending = s.pending := by
  unfold State.windowEnd
  split
  · dsimp only
    split <;> simp
  · rfl

/-! ## The requests of the run and the odometer -/

theorem State.pending_reform (i : ProbeNo) : (s.reform i).pending = s.pending := by
  unfold State.reform
  dsimp only
  split
  · split <;> simp
  · rfl

theorem State.pending_setScalerBy (num den : BitVec 16) : (s.setScalerBy num den).1.pending = s.pending := by
  unfold State.setScalerBy
  split
  · split <;> rfl
  · rfl

theorem State.pending_setMarkerBy (marker enabled edge : Byte) (lockout : BitVec 16) (action : Byte) (load : Pos) :
    (s.setMarkerBy marker enabled edge lockout action load).1.pending = s.pending := by
  unfold State.setMarkerBy
  split <;> rfl

theorem State.pending_startBy (limit : BitVec 24) (label : BitVec 16) :
    (s.startBy limit label).1.pending = s.pending := by
  unfold State.startBy
  split
  · exact State.pending_endPool _
  · rfl

@[simp] theorem State.pending_stop : s.stop.pending = s.pending := by
  rw [State.stop_eq]

theorem State.pending_stopBy : s.stopBy.1.pending = s.pending := by
  unfold State.stopBy
  split
  · rfl
  · simp

theorem State.pending_resetRelease (encA encB m0 m1 : Bool) (present : PortSet) {t : State}
    (e : execResetRelease encA encB m0 m1 present s = .next t) : t.pending = s.pending := by
  cases e
  split <;> rfl

end track

/-! ## Commands -/

/-- Every operation leaves the queue of commands as it is (log 12). -/
theorem operationsKeep_pending : OperationsKeep fun s t => t.pending = s.pending where
  refl _ := rfl
  trans h k := k.trans h
  hub := State.pending_withHub
  plan _ _ := rfl
  holdSet _ _ _ := rfl
  hardwareReset _ := rfl
  resetRelease s encA encB m0 m1 present _ := s.pending_resetRelease encA encB m0 m1 present
  transition := State.pending_transition
  speedWindow _ := rfl
  markerChange := State.pending_markerChange
  timerExpiry := State.pending_timerExpiry
  windowEnd := State.pending_windowEnd
  settleEnd := State.pending_settleEnd
  afterCycles := State.pending_afterCycles
  reform := State.pending_reform
  setScaler := State.pending_setScalerBy
  setPosition _ _ := rfl
  setMarker := State.pending_setMarkerBy
  start := State.pending_startBy
  stop := State.pending_stopBy

/-- No command faults or is refused: hardware reset and its release answer in every state, and every other command
answers whether or not RESET is low (log 13). Each arm is a next state as it is written. -/
theorem exec_answers_next (c : Instr) (s : State) : ∃ t, exec c s = .next t := by
  cases c <;> exact ⟨_, rfl⟩

end Sys2Proof.Machine

namespace Sys2Proof.Proofs
open Sys2Proof.Machine

/-- Settles O2: every command answers a next state, and every operation keeps the queue. -/
theorem everyCommandGoesOn : Obligations.EveryCommandGoesOn := by
  intro c s
  obtain ⟨t, answered⟩ := exec_answers_next c s
  exact ⟨t, answered, operationsKeep_pending.exec answered⟩

/-- Settles O1, by the two forms of the queue. -/
theorem stepRunsTheFrontCommand : Obligations.StepRunsTheFrontCommand := by
  refine ⟨fun s c rest queue => ?_, fun s empty => ?_⟩
  · unfold step
    rw [queue]
  · unfold step
    rw [empty]

end Sys2Proof.Proofs
end
